-- ==== Sys2Proof/Word.lean ====
section
/-! DEFINITION. The word types of K2MIX. spec/00_scope.md rule R13: `uN` and `sN` are N-bit patterns, the
signed ones in two's complement, bit 0 the least significant; a byte is 8 bits. A pattern is a `BitVec`; its
signed reading is `BitVec.toInt` (`sext_N` of R14) and the pattern of an integer is `BitVec.ofInt` (`tc_N`). -/

namespace Sys2Proof

/-- A byte, u8 (R13). -/
abbrev Byte := BitVec 8

/-- A 16-bit pattern: a command word, a checksum, `RXLEN`, `ERRINFO`. -/
abbrev Word16 := BitVec 16

/-- A 32-bit pattern: `TH[i]`, `VAL`, `RXVAL` and the wire argument. -/
abbrev Word32 := BitVec 32

/-- A 64-bit pattern: the setpoint register `SP`. -/
abbrev Word64 := BitVec 64

end Sys2Proof
end

