-- ==== Sys2Proof/Config.lean ====
section
/-! DEFINITION. The build-time configuration of K2MIX (spec/00_scope.md rules R6 to R10). It is not state
(spec/10_state.md rule R31): no operation, no host access and no reset changes it. Every parameter the spec leaves
OPEN stays open here: `Config.build` is an opaque constant with no body, so nothing proved about the machine can
rest on a chosen value (notes/assumptions/1.md). -/

namespace Sys2Proof

/-- The sign `DIR[i]` of a thruster, +1 or -1 (R6). -/
inductive Sign where
  | plus
  | minus
  deriving DecidableEq, Repr, Inhabited

/-- The integer a direction sign stands for (R6). -/
def Sign.toInt : Sign → Int
  | .plus => 1
  | .minus => -1

/-- Which of the two checksum algorithms the build computes (R8, spec/41_codec_encode.md R113). -/
inductive CrcVariant where
  | ccitt
  | a001
  deriving DecidableEq, Repr, Inhabited

/-- One mixer lane (R6, spec/40_mixing.md R99): column i of `MM`, whose entry k is the signed 8-bit
coefficient of axis k (surge, sway, heave, roll, pitch, yaw), and the direction sign `DIR[i]`. -/
structure Lane where
  mm : Vector Byte 6
  dir : Sign
  deriving DecidableEq, Repr, Inhabited

/-- A thruster with index 1 or more: its lane and its bus node id `NODE[i]` (R7: `NODE[0]` does not exist,
thruster 0 is local). -/
structure BusThruster where
  lane : Lane
  node : Byte
  deriving DecidableEq, Repr, Inhabited

/-- The record `Cfg` of R6 to R8. Thruster 0 stands apart from the thrusters 1 to N_THR - 1, so that there is
always a thruster 0 and only the others have a node id (notes/assumptions/2.md). -/
structure Cfg where
  /-- The lane of thruster 0, the local one. -/
  thruster0 : Lane
  /-- The thrusters 1, 2, … in order. -/
  bus : List BusThruster
  /-- `COEF_FRAC`. -/
  coefFrac : Nat
  /-- `MAXDUTY_U`, in duty units of 1/100000 (R11). -/
  maxDutyU : Nat
  /-- `NORM_DEN2`, twice the normalisation divisor. -/
  normDen2 : Nat
  /-- `CRC_VARIANT`. -/
  crcVariant : CrcVariant
  /-- `START_BYTE`. -/
  startByte : Byte
  /-- `STOP_BYTE`. -/
  stopByte : Byte
  /-- `CMD_SET_DUTY`. -/
  cmdSetDuty : Byte
  /-- `CMD_SET_CURRENT`. -/
  cmdSetCurrent : Byte
  /-- `CMD_SET_CURRENT_BRAKE`. -/
  cmdSetCurrentBrake : Byte
  /-- `CMD_GET_VALUES`. -/
  cmdGetValues : Byte
  /-- `CMD_FORWARD`, the routing command-id. -/
  cmdForward : Byte
  deriving DecidableEq, Repr, Inhabited

/-- The mixer lanes of a build, thruster 0 first. -/
def Cfg.lanes (c : Cfg) : List Lane := c.thruster0 :: c.bus.map (·.lane)

/-- `N_THR`, the number of thrusters (R6). -/
def Cfg.nThr (c : Cfg) : Nat := c.bus.length + 1

/-- The five command-ids, which R9 wants pairwise different. -/
def Cfg.commandIds (c : Cfg) : List Byte :=
  [c.cmdSetDuty, c.cmdSetCurrent, c.cmdSetCurrentBrake, c.cmdGetValues, c.cmdForward]

/-- Legality of a configuration (R9): the ranges of R6 to R8 that the types do not already give, and the five
command-ids pairwise different. -/
abbrev Cfg.wf (c : Cfg) : Prop :=
  c.nThr ≤ 256 ∧ c.coefFrac ≤ 7 ∧ c.maxDutyU ≤ 100000 ∧ (c.normDen2 = 254 ∨ c.normDen2 = 255) ∧
    c.commandIds.Nodup

/-- A legal configuration: R9 lets no other be instantiated. The default below only shows Lean that legal
configurations exist; nothing can see it behind the opaque `Config.build`. -/
structure Build where
  cfg : Cfg :=
    { thruster0 := ⟨#v[0, 0, 0, 0, 0, 0], .plus⟩, bus := [], coefFrac := 0, maxDutyU := 0, normDen2 := 254,
      crcVariant := .ccitt, startByte := 0, stopByte := 0, cmdSetDuty := 0, cmdSetCurrent := 1,
      cmdSetCurrentBrake := 2, cmdGetValues := 3, cmdForward := 4 }
  wf : cfg.wf := by decide
  deriving Inhabited

/-- The configuration of the build that the machine is: OPEN in the spec (R6 to R8, spec/92_eei_decisions.md
section 0), hence an opaque constant. A theorem about it holds for every legal configuration. -/
opaque Config.build : Build

/-- The configuration record that the machine's step reads. -/
def Config.cfg : Cfg := Config.build.cfg

/-- R9: the machine is only ever instantiated with a legal configuration. -/
theorem Config.cfg_wf : Config.cfg.wf := Config.build.wf

/-- `TX_PAYLOAD_MAX` (R10). -/
abbrev txPayloadMax : Nat := 16

/-- `TX_FRAME_MAX`, the size of `TXBUF` (R10, spec/10_state.md R27). -/
abbrev txFrameMax : Nat := 21

/-- `FRAME_OVERHEAD`: START, LENGTH, two CHECKSUM bytes, STOP (R10). -/
abbrev frameOverhead : Nat := 5

/-- `RX_FRAME_MAX`, the size of `RXBUF` (R10, spec/10_state.md R28). -/
abbrev rxFrameMax : Nat := 260

end Sys2Proof
end

