-- ==== Sys2Proof/Syntax.lean ====
section
/-! DEFINITION. What K2MIX is told to do. `Instr` has one constructor for each row of spec/opcode_table.json: the
ten operations of spec/30_encoding.md rule R73, selected by a command word, and the five wire payloads of rule R76,
which arrive inside a received frame. Operands have the width of their field, so no term has an operand out of
range. `HostReg` and `HostAction` are the host's side: the named registers of spec/10_state.md rule R36 and the
actions of spec/30_encoding.md rule R81. -/

namespace Sys2Proof

/-- An instruction: one constructor for each row of spec/opcode_table.json. -/
inductive Instr where
  /-- MIX, 0x0001 (R95). -/
  | mix
  /-- DISP, 0x0002 (R166). -/
  | disp
  /-- DTH i, (i << 8) | 0x03: thruster index i (R164). -/
  | dth (i : Byte)
  /-- ESD, 0x0010 (R119). -/
  | esd
  /-- ESDR n, (n << 8) | 0x11: node id n (R120). -/
  | esdr (n : Byte)
  /-- ESC, 0x0012 (R121). -/
  | esc
  /-- ESCB, 0x0013 (R122). -/
  | escb
  /-- EGV, 0x0014 (R123). -/
  | egv
  /-- CRC, 0x0020 (R124). -/
  | crc
  /-- DEC, 0x0021 (R151). -/
  | dec
  /-- The wire payload SET_DUTY(v), v in duty units (R76). -/
  | setDuty (v : Word32)
  /-- The wire payload SET_DUTY_ROUTED(n, v) (R76). -/
  | setDutyRouted (n : Byte) (v : Word32)
  /-- The wire payload SET_CURRENT(v), v in milliamperes (R76). -/
  | setCurrent (v : Word32)
  /-- The wire payload SET_CURRENT_BRAKE(v), v in milliamperes (R76). -/
  | setCurrentBrake (v : Word32)
  /-- The wire payload GET_VALUES (R76). -/
  | getValues
  deriving DecidableEq, Repr

/-- A register, register view or buffer byte by the name the host uses (spec/10_state.md R36,
spec/20_memory.md R55 and R59: by name, there are no bus addresses). -/
inductive HostReg where
  /-- The whole setpoint register. -/
  | sp
  /-- One of the eight byte fields of `SP` (R21, R55). -/
  | spField (j : Fin 8)
  /-- `AX[k]` (R22). -/
  | ax (k : Fin 6)
  /-- `TH[i]` (R25). -/
  | th (i : Nat)
  | val
  /-- `TXBUF[o]` (R27). -/
  | txbuf (o : Nat)
  | txlen
  /-- `RXBUF[o]` (R28). -/
  | rxbuf (o : Nat)
  | rxlen
  | rxst
  | rxcmd
  | rxplen
  | rxkind
  | rxnode
  | rxval
  | crcr
  | err
  | errinfo
  deriving DecidableEq, Repr

/-- One action of the host on the block (spec/30_encoding.md R70 and R81): a command word written to the command
port, a register write, a register read, a reset. -/
inductive HostAction where
  /-- The host writes the command word w to the command port (R70). -/
  | command (w : Word16)
  /-- `WR r, v`: the access has the width of r, so only the low bits of v are presented (R57). -/
  | write (r : HostReg) (v : Word64)
  /-- `RD r`. -/
  | read (r : HostReg)
  /-- `RESET` (spec/70_reset_and_hazards.md R200). -/
  | reset
  deriving DecidableEq, Repr

end Sys2Proof
end

