-- ==== Sys2Proof/WellFormed.lean ====
section
/-! DEFINITION. What is well formed. Operand WIDTHS are in the types of `Instr`; what is left is what
spec/70_reset_and_hazards.md rule R208 asks of the host and what spec/20_memory.md rule R50 and spec/10_state.md
rule R25 say exists. (Legality of the configuration, R9, is `Cfg.wf` in Sys2Proof/Config.lean.) -/

namespace Sys2Proof

/-- R208: "a DTH index must be below N_THR". Every other operand of every instruction is legal at every value its
field holds (spec/30_encoding.md R72, spec/41_codec_encode.md R117 and R120). -/
def Instr.wf (c : Cfg) : Instr → Bool
  | .dth i => decide (i.toNat < c.nThr)
  | .mix | .disp | .esd | .esdr _ | .esc | .escb | .egv | .crc | .dec => true
  | .setDuty _ | .setDutyRouted _ _ | .setCurrent _ | .setCurrentBrake _ | .getValues => true

/-- Does the build have this register or buffer byte? `TH[i]` exists for i < N_THR (R25), `TXBUF[o]` for o < 21 and
`RXBUF[o]` for o < 260 (R50); every other name always does. -/
def HostReg.present (c : Cfg) : HostReg → Bool
  | .th i => decide (i < c.nThr)
  | .txbuf o => decide (o < txFrameMax)
  | .rxbuf o => decide (o < rxFrameMax)
  | .sp | .spField _ | .ax _ | .val | .txlen | .rxlen | .rxst | .rxcmd | .rxplen | .rxkind | .rxnode
  | .rxval | .crcr | .err | .errinfo => true

/-- A host action names only what the build has. -/
def HostAction.wf (c : Cfg) : HostAction → Bool
  | .write r _ => r.present c
  | .read r => r.present c
  | .command _ | .reset => true

end Sys2Proof
end

