-- ==== Sys2Proof/Decode.lean ====
section
/-! DEFINITION. Both encodings of spec/30_encoding.md and their decoders: the 16-bit command word (rules R70 to R74)
and the wire payloads (rules R76, R77 and spec/42_codec_decode.md rule R150). Decoding is total; what it does not
accept it rejects by name. The encoder stands after the decoders. -/

namespace Sys2Proof

/-! ## Byte order and the payload layouts -/

/-- `be32` of R14: the four bytes of a 32-bit pattern, most significant first (spec/20_memory.md R51). -/
def be32 (v : Word32) : List Byte :=
  [v.extractLsb' 24 8, v.extractLsb' 16 8, v.extractLsb' 8 8, v.extractLsb' 0 8]

/-- `unbe32` of R14 as a pattern: four bytes, most significant first. -/
def unbe32 (b0 b1 b2 b3 : Byte) : Word32 := b0 ++ b1 ++ b2 ++ b3

/-- `PayDuty(v)` (spec/41_codec_encode.md R116). -/
def payDuty (c : Cfg) (v : Word32) : List Byte := c.cmdSetDuty :: be32 v

/-- `PayDutyRouted(n, v)` (R116): the plain duty payload behind the routing command-id and the node id. -/
def payDutyRouted (c : Cfg) (n : Byte) (v : Word32) : List Byte := c.cmdForward :: n :: payDuty c v

/-- `PayCurrent(v)` (R116). -/
def payCurrent (c : Cfg) (v : Word32) : List Byte := c.cmdSetCurrent :: be32 v

/-- `PayBrake(v)` (R116). -/
def payBrake (c : Cfg) (v : Word32) : List Byte := c.cmdSetCurrentBrake :: be32 v

/-- `PayGetValues` (R116). -/
def payGetValues (c : Cfg) : List Byte := [c.cmdGetValues]

/-! ## Decoding -/

/-- Why a word or a payload is no instruction. -/
inductive DecodeError where
  /-- An operation code that is none of the ten (R74). -/
  | unknownOp (op : Byte)
  /-- An operation code of format Z whose `ARG` is not 0 (R71). -/
  | argNotZero (op : Byte) (arg : Byte)
  /-- A payload of none of the five known shapes (R150 row 6, RAW). -/
  | rawPayload
  deriving DecidableEq, Repr

/-- A row of the table of R73: a command word w selects it when `(w and mask) = pattern`. -/
structure CommandRow where
  mnemonic : String
  pattern : Word16
  mask : Word16
  /-- The operation, from the argument `ARG` (which format Z does not use). -/
  operation : Byte → Instr

/-- The table of R73. -/
def commandTable : List CommandRow :=
  [ ⟨"MIX", 0x0001, 0xFFFF, fun _ => .mix⟩,
    ⟨"DISP", 0x0002, 0xFFFF, fun _ => .disp⟩,
    ⟨"DTH", 0x0003, 0x00FF, fun i => .dth i⟩,
    ⟨"ESD", 0x0010, 0xFFFF, fun _ => .esd⟩,
    ⟨"ESDR", 0x0011, 0x00FF, fun n => .esdr n⟩,
    ⟨"ESC", 0x0012, 0xFFFF, fun _ => .esc⟩,
    ⟨"ESCB", 0x0013, 0xFFFF, fun _ => .escb⟩,
    ⟨"EGV", 0x0014, 0xFFFF, fun _ => .egv⟩,
    ⟨"CRC", 0x0020, 0xFFFF, fun _ => .crc⟩,
    ⟨"DEC", 0x0021, 0xFFFF, fun _ => .dec⟩ ]

/-- The field `OP`, bits [7:0] of a command word (R70). -/
def commandOp (w : Word16) : Byte := w.extractLsb' 0 8

/-- The field `ARG`, bits [15:8] of a command word (R70). -/
def commandArg (w : Word16) : Byte := w.extractLsb' 8 8

/-- The command word with operation code `op` and argument `arg` (R70). -/
def commandWord (op arg : Byte) : Word16 := arg ++ op

/-- Does the word select the row (R73)? -/
def CommandRow.selects (r : CommandRow) (w : Word16) : Bool := (w &&& r.mask) == r.pattern

/-- The command decoder, total over all 65536 words (R73, R74). -/
def decodeCommand (w : Word16) : Except DecodeError Instr :=
  match commandTable.find? (·.selects w) with
  | some r => .ok (r.operation (commandArg w))
  | none =>
    if commandTable.any (fun r => commandOp r.pattern == commandOp w) then
      .error (.argNotZero (commandOp w) (commandArg w))
    else .error (.unknownOp (commandOp w))

/-- The typed parse of a payload (spec/42_codec_decode.md R150 rows 1 to 5; anything else is RAW). The rows of one
length differ in their command-ids only, which are pairwise different (R9). -/
def decodePayload (c : Cfg) : List Byte → Except DecodeError Instr
  | [g] => if g = c.cmdGetValues then .ok .getValues else .error .rawPayload
  | [d, b0, b1, b2, b3] =>
    if d = c.cmdSetDuty then .ok (.setDuty (unbe32 b0 b1 b2 b3))
    else if d = c.cmdSetCurrent then .ok (.setCurrent (unbe32 b0 b1 b2 b3))
    else if d = c.cmdSetCurrentBrake then .ok (.setCurrentBrake (unbe32 b0 b1 b2 b3))
    else .error .rawPayload
  | [f, n, d, b0, b1, b2, b3] =>
    if f = c.cmdForward ∧ d = c.cmdSetDuty then .ok (.setDutyRouted n (unbe32 b0 b1 b2 b3))
    else .error .rawPayload
  | _ => .error .rawPayload

/-- The bits of an instruction as they reach the block: a command word at the command port, or the payload of a
received frame. -/
inductive Encoded where
  | command (w : Word16)
  | payload (p : List Byte)
  deriving DecidableEq, Repr

/-- The decoder over both spaces. -/
def decode (c : Cfg) : Encoded → Except DecodeError Instr
  | .command w => decodeCommand w
  | .payload p => decodePayload c p

/-! ## Encoding -/

/-- The encoder: the command word of R80, or the payload of R76. -/
def encode (c : Cfg) : Instr → Encoded
  | .mix => .command (commandWord 0x01 0)
  | .disp => .command (commandWord 0x02 0)
  | .dth i => .command (commandWord 0x03 i)
  | .esd => .command (commandWord 0x10 0)
  | .esdr n => .command (commandWord 0x11 n)
  | .esc => .command (commandWord 0x12 0)
  | .escb => .command (commandWord 0x13 0)
  | .egv => .command (commandWord 0x14 0)
  | .crc => .command (commandWord 0x20 0)
  | .dec => .command (commandWord 0x21 0)
  | .setDuty v => .payload (payDuty c v)
  | .setDutyRouted n v => .payload (payDutyRouted c n v)
  | .setCurrent v => .payload (payCurrent c v)
  | .setCurrentBrake v => .payload (payBrake c v)
  | .getValues => .payload (payGetValues c)

/-- How many bits an encoding has. -/
def Encoded.bits : Encoded → Nat
  | .command _ => 16
  | .payload p => 8 * p.length

/-! ## The opcode table's numbering of bits -/

/-- The first n bytes of the number w, the least significant one first: byte j of a payload is bits 8j + 7 to 8j
of the table's number. -/
def bytesOfNat : Nat → Nat → List Byte
  | 0, _ => []
  | n + 1, w => BitVec.ofNat 8 w :: bytesOfNat n (w / 256)

/-- The bits of a row of spec/opcode_table.json as the hardware meets them: a 16-bit row is a command word, every
other row a wire payload of nbits / 8 bytes. -/
def encodedOfTableWord (nbits w : Nat) : Encoded :=
  if nbits = 16 then .command (BitVec.ofNat 16 w) else .payload (bytesOfNat (nbits / 8) w)

/-- The instruction the decoder reads from the bits w of an opcode-table row of nbits bits. -/
def decodeTableWord (nbits w : Nat) : Option Instr :=
  (decode Config.cfg (encodedOfTableWord nbits w)).toOption

end Sys2Proof
end

