-- ==== Sys2Proof/Machine/State.lean ====
section
/-! DEFINITION. The state of K2MIX (spec/10_state.md rule R20: "The whole state of K2MIX is the following and
nothing else") and the one field of the model's own, the stream of host actions that have not taken effect yet
(notes/assumptions/3.md). -/

namespace Sys2Proof.Machine

/-- A byte-addressable space (spec/20_memory.md R50) as a sparse list of cells: addresses strictly rising, and no
cell holding 0, which is what an unlisted byte reads as (both buffers are all 0 after reset, R37). -/
abbrev Memory := List Host.Cell

/-- The canonical form of a space. -/
abbrev Memory.wf (m : Memory) : Prop := m.Pairwise (fun a b => a.1 < b.1) ∧ ∀ a ∈ m, a.2 ≠ 0

/-- Every listed address lies inside a space of `size` bytes. -/
abbrev Memory.within (size : Nat) (m : Memory) : Prop := ∀ a ∈ m, a.1 < size

/-- The tag of a Transport Adapter (R30, spec/43_dispatch.md R160). -/
inductive Transport where
  /-- `LOCAL`, the local serial link of thruster 0. -/
  | localLink
  /-- `BUS`, the multi-drop bus of the other thrusters. -/
  | bus
  deriving DecidableEq, Repr

/-- A record of the output history: what one transport is handed (R30, R163). -/
structure OutRecord where
  transport : Transport
  node : Byte
  bytes : List Byte
  deriving DecidableEq, Repr

/-- Why the machine stops. The three faults of the block itself (ILLOP, BADIDX, BADLEN) are none of these: their
entry is described (spec/60_exceptions.md R178), so they are taken, as a next state. -/
inductive Fault where
  /-- Raised by the host's access port, for a read or a write of `TH[i]` with i ≥ N_THR, of `TXBUF[o]` with o ≥ 21 or
  of `RXBUF[o]` with o ≥ 260: there is no such location (R50, R25). Safe: the model stops. -/
  | noSuchLocation (r : HostReg)
  deriving DecidableEq, Repr

/-- Why an instruction has no meaning. -/
inductive Refusal where
  /-- Raised by `exec` for an instruction that has no meaning yet (none is left). Safe: the model stops. -/
  | notModelled (mnemonic : String)
  deriving DecidableEq, Repr

/-- The state (R20). -/
structure State where
  /-- `SP` (R21); the six `AX[k]` are views of it (R22). -/
  sp : Word64
  /-- `TH[0]`, …, `TH[N_THR - 1]` (R25), patterns of signed duty values. -/
  th : List Word32
  /-- `VAL` (R26). -/
  val : Word32
  /-- `TXBUF`, 21 bytes (R27). -/
  txbuf : Memory
  /-- `TXLEN` (R27). -/
  txlen : Byte
  /-- `RXBUF`, 260 bytes (R28). -/
  rxbuf : Memory
  /-- `RXLEN` (R28). -/
  rxlen : Word16
  /-- `RXST` (R29). -/
  rxst : Byte
  /-- `RXCMD` (R29). -/
  rxcmd : Byte
  /-- `RXPLEN` (R29). -/
  rxplen : Byte
  /-- `RXKIND` (R29). -/
  rxkind : Byte
  /-- `RXNODE` (R29). -/
  rxnode : Byte
  /-- `RXVAL` (R29). -/
  rxval : Word32
  /-- `CRCR` (R29). -/
  crcr : Word16
  /-- `OUT` (R30), oldest record first. -/
  out : List OutRecord
  /-- `ERR` (R32). -/
  err : Byte
  /-- `ERRINFO` (R32). -/
  errinfo : Word16
  /-- THE MODEL'S OWN: the host's actions that have not taken effect yet, in the order the host issued them
  (spec/20_memory.md R60 and R61: one totally ordered stream of accesses and command words). -/
  hostStream : List HostAction
  deriving DecidableEq, Repr

/-- Every piece of state at its reset value (R37), for a build with the configuration c. -/
def State.resetOf (c : Cfg) : State where
  sp := 0
  th := List.replicate c.nThr 0
  val := 0
  txbuf := []
  txlen := 0
  rxbuf := []
  rxlen := 0
  rxst := 0
  rxcmd := 0
  rxplen := 0
  rxkind := 0
  rxnode := 0
  rxval := 0
  crcr := 0
  out := []
  err := 0
  errinfo := 0
  hostStream := []

/-- The machine right after reset (R37, spec/70_reset_and_hazards.md R200): idle, no host action pending. -/
def State.reset : State := State.resetOf Config.cfg

end Sys2Proof.Machine
end

