-- ==== Sys2Proof/Machine/Flags.lean ====
section
/-! DEFINITION. K2MIX has no condition codes (spec/10_state.md rule R34). What a host can test is here: the fault
codes of `ERR` (spec/60_exceptions.md R176), the decoder's status codes of `RXST` (spec/42_codec_decode.md R141) and
payload kinds of `RXKIND` (R150), and the three tests of R34. -/

namespace Sys2Proof.Machine

/-- The faults of the block (R176). -/
inductive FaultCode where
  /-- The command word matches no row of R73. -/
  | illop
  /-- DTH with `ARG` ≥ N_THR. -/
  | badidx
  /-- CRC with `RXLEN` > 260. -/
  | badlen
  deriving DecidableEq, Repr

/-- The code `ERR` takes (R176). -/
def FaultCode.code : FaultCode → Byte
  | .illop => 1
  | .badidx => 2
  | .badlen => 3

/-- What `FrameCheck` finds (R141), and NONE, the reset value of `RXST`. -/
inductive FrameStatus where
  | none
  | ok
  | eShort
  | eStart
  | eLen
  | eSize
  | eStop
  | eCrc
  deriving DecidableEq, Repr

/-- The code `RXST` takes (R141). -/
def FrameStatus.code : FrameStatus → Byte
  | .none => 0
  | .ok => 1
  | .eShort => 2
  | .eStart => 3
  | .eLen => 4
  | .eSize => 5
  | .eStop => 6
  | .eCrc => 7

/-- What a valid payload is (R150). -/
inductive PayloadKind where
  | raw
  | duty
  | current
  | brake
  | getValues
  | dutyRouted
  deriving DecidableEq, Repr

/-- The code `RXKIND` takes (R150). -/
def PayloadKind.code : PayloadKind → Byte
  | .raw => 0
  | .duty => 1
  | .current => 2
  | .brake => 3
  | .getValues => 4
  | .dutyRouted => 5

/-- R34: "`ERR` not 0 (the block has faulted and is halted)". -/
def State.halted (s : State) : Bool := s.err != 0

/-- R34: `RXST`, the result of the last DEC, says that the frame was valid. -/
def State.frameValid (s : State) : Bool := s.rxst == FrameStatus.ok.code

/-- R34: "`TXLEN` not 0 (a frame has been built since reset)". -/
def State.frameBuilt (s : State) : Bool := s.txlen != 0

end Sys2Proof.Machine
end

