-- ==== Sys2Proof/Machine/Operands.lean ====
section
/-! DEFINITION. The operand forms and the arithmetic primitives of K2MIX: the views of the setpoint register
(spec/10_state.md rules R21 and R22, spec/20_memory.md R53 to R55), the thruster registers as operands, and
`trunc0` and `clamp` of spec/00_scope.md rule R14. -/

namespace Sys2Proof.Machine

/-- `trunc0(p, q)` of R14: the quotient rounded toward zero, for q > 0. -/
def trunc0 (p q : Int) : Int := if 0 ≤ p then p / q else -(-p / q)

/-- `clamp(v, lo, hi)` of R14. -/
def clamp (v lo hi : Int) : Int := if v < lo then lo else if hi < v then hi else v

/-- `tc_32(x)` of R14: the 32-bit pattern of an integer. -/
def tc32 (x : Int) : Word32 := BitVec.ofInt 32 x

/-- Byte field j of `SP`: bits [8j + 7 : 8j] (R21). Field 6 is LIGHT and field 7 is MANIP, which no operation
reads (R24). -/
def spField (sp : Word64) (j : Fin 8) : Byte := sp.extractLsb' (8 * j.val) 8

/-- `AX[k]` as a pattern: the axes are the byte fields 0 to 5 (R22). -/
def axisByte (sp : Word64) (k : Fin 6) : Byte := spField sp ⟨k.val, by omega⟩

/-- `AX[k] = sext_8(SP[8k+7 : 8k])` (R22). -/
def axes (sp : Word64) (k : Fin 6) : Int := (axisByte sp k).toInt

/-- `SP[8j+7 : 8j] <- b`, the other 56 bits unchanged (R22). -/
def setSpField (sp : Word64) (j : Fin 8) (b : Byte) : Word64 :=
  (sp &&& ~~~((0xFF : Word64) <<< (8 * j.val))) ||| (b.setWidth 64 <<< (8 * j.val))

/-- `ToBytes(SP)` (spec/20_memory.md R53): the little-endian byte export, byte j being field j. -/
def toBytes (sp : Word64) : List Byte := (List.finRange 8).map (spField sp)

/-- `FromBytes(b)` (spec/20_memory.md R54): the sum of `b[j] * 2^(8j)`, in 64 bits. -/
def fromBytes : List Byte → Word64
  | [] => 0
  | b :: bs => b.setWidth 64 + (fromBytes bs <<< 8)

/-- `TH[i]` as an operand. Every i < N_THR is listed in every state the machine reaches (R25); in a state that
lists fewer the pattern read is 0 (notes/assumptions/9.md). -/
def State.thrust (s : State) (i : Nat) : Word32 := s.th.getD i 0

end Sys2Proof.Machine
end

