-- ==== Sys2Proof/Machine/Ops.lean ====
section
/-! DEFINITION. The named operations over memory and registers: the memory primitives of spec/00_scope.md rule
R16, the register write-backs, TAKING A FAULT (spec/60_exceptions.md rule R178), the halt check (R179) and the one
way out of a fault, reset (R181). -/

namespace Sys2Proof.Machine

/-! ## Memory -/

/-- `S[a]` (R16). A byte that is not listed reads as 0 (R37). -/
def Memory.read : Memory → Nat → Byte
  | [], _ => 0
  | (k, b) :: m, a => if k = a then b else Memory.read m a

/-- `S[a] <- v`, keeping the canonical form: writing 0 removes the cell. -/
def Memory.write : Memory → Nat → Byte → Memory
  | [], a, v => if v = 0 then [] else [(a, v)]
  | (k, b) :: m, a, v =>
    if a < k then (if v = 0 then (k, b) :: m else (a, v) :: (k, b) :: m)
    else if a = k then (if v = 0 then m else (a, v) :: m)
    else (k, b) :: Memory.write m a v

/-- `MemRead(S:o, n)` (R16). -/
def Memory.readRange (m : Memory) (o n : Nat) : List Byte := (List.range n).map fun j => m.read (o + j)

/-- `MemWrite(S:o, n, b)` with n the length of b, lowest offset first (R16). -/
def Memory.writeRange : Memory → Nat → List Byte → Memory
  | m, _, [] => m
  | m, o, b :: bs => Memory.writeRange (Memory.write m o b) (o + 1) bs

/-! ## Register write-backs of the operations -/

/-- `TH[i] <- ts[i]` for every i (spec/40_mixing.md R95). -/
def State.setTh (s : State) (ts : List Word32) : State := { s with th := ts }

/-- `CRCR <- x` (spec/41_codec_encode.md R124). -/
def State.setCrcr (s : State) (x : Word16) : State := { s with crcr := x }

/-- The write-back of spec/41_codec_encode.md R118: `TXBUF[0..n-1] <- f`, the bytes above unchanged, `TXLEN <- n`. -/
def State.storeFrame (s : State) (f : List Byte) : State :=
  { s with txbuf := s.txbuf.writeRange 0 f, txlen := BitVec.ofNat 8 f.length }

/-- `emit` (spec/00_scope.md R17): append a record to `OUT`. -/
def State.emit (s : State) (r : OutRecord) : State := { s with out := s.out ++ [r] }

/-- The six decoder results at once (spec/42_codec_decode.md R151). -/
def State.setDecoded (s : State) (st : FrameStatus) (cmd plen : Byte) (kind : PayloadKind) (node : Byte)
    (v : Word32) : State :=
  { s with rxst := st.code, rxcmd := cmd, rxplen := plen, rxkind := kind.code, rxnode := node, rxval := v }

/-! ## Register writes of the host -/

/-- `SP <- v`, all 64 bits at once (spec/10_state.md R23). -/
def State.setSp (s : State) (v : Word64) : State := { s with sp := v }

/-- `VAL <- v` (R26). -/
def State.setVal (s : State) (v : Word32) : State := { s with val := v }

/-- `RXBUF[o] <- b` (R28). -/
def State.setRxByte (s : State) (o : Nat) (b : Byte) : State := { s with rxbuf := s.rxbuf.write o b }

/-- `RXLEN <- n` (R28). -/
def State.setRxlen (s : State) (n : Word16) : State := { s with rxlen := n }

/-- The host actions that are left. -/
def State.setStream (s : State) (as : List HostAction) : State := { s with hostStream := as }

/-! ## Taking a fault, the halt, and the way out -/

/-- FAULT ENTRY (spec/60_exceptions.md R178): `ERR <- c ; ERRINFO <- w`, "and nothing else changes". There is no
vector, no handler and no saved context. -/
def State.takeFault (s : State) (f : FaultCode) (w : Word16) : State := { s with err := f.code, errinfo := w }

/-- THE HALT CHECK (spec/60_exceptions.md R179), which applies to every operation: in a faulted block the operation
is discarded and no state changes. -/
def whenRunning (f : State → State) (s : State) : State := if s.halted then s else f s

/-- THE WAY OUT OF A FAULT (R181, spec/70_reset_and_hazards.md R200): there is no return; reset puts every piece of
state to its reset value. The host's later actions are not the block's state and stay. -/
def State.resetBlock (c : Cfg) (s : State) : State := (State.resetOf c).setStream s.hostStream

end Sys2Proof.Machine
end

