-- ==== Sys2Proof/Machine/Crc.lean ====
section
/-! DEFINITION. The two checksum algorithms (spec/41_codec_encode.md rules R110 to R113). -/

namespace Sys2Proof.Machine

/-- One of the eight bit steps of R111, most significant bit first. -/
def ccittBit (c : Word16) : Word16 := if c.msb then (c <<< 1) ^^^ 0x1021 else c <<< 1

/-- One byte of R111: it enters at the high end. -/
def ccittByte (c : Word16) (b : Byte) : Word16 := Nat.repeat ccittBit 8 (c ^^^ (b.setWidth 16 <<< 8))

/-- `CrcCcitt(b)` (R111): initial value 0x0000, no final exclusive-or. -/
def crcCcitt (bs : List Byte) : Word16 := bs.foldl ccittByte 0x0000

/-- One of the eight bit steps of R112, least significant bit first. -/
def a001Bit (c : Word16) : Word16 := if c.getLsbD 0 then (c >>> 1) ^^^ 0xA001 else c >>> 1

/-- One byte of R112: it enters at the low end. -/
def a001Byte (c : Word16) (b : Byte) : Word16 := Nat.repeat a001Bit 8 (c ^^^ b.setWidth 16)

/-- `CrcA001(b)` (R112): initial value 0xFFFF, no final exclusive-or. -/
def crcA001 (bs : List Byte) : Word16 := bs.foldl a001Byte 0xFFFF

/-- `Crc16(b)` (R113): the variant of the build. -/
def crc16 (c : Cfg) (bs : List Byte) : Word16 :=
  match c.crcVariant with
  | .ccitt => crcCcitt bs
  | .a001 => crcA001 bs

end Sys2Proof.Machine
end

