-- ==== Sys2Proof/Machine/Checksum.lean ====
section
/-! DEFINITION. The checksum operation CRC (spec/41_codec_encode.md rule R124). -/

namespace Sys2Proof.Machine

/-- CRC (R124) on a running block: BADLEN when `RXLEN` > 260, with the command word 0x0020 as `ERRINFO`
(spec/60_exceptions.md R176); else `CRCR <- Crc16(RXBUF[0..RXLEN-1])`. -/
def crcOp (c : Cfg) (s : State) : State :=
  if rxFrameMax < s.rxlen.toNat then s.takeFault .badlen (commandWord 0x20 0)
  else s.setCrcr (crc16 c (s.rxbuf.readRange 0 s.rxlen.toNat))

/-- CRC. -/
def execCrc (s : State) : Host.Outcome State Fault Refusal := .next (whenRunning (crcOp Config.cfg) s)

end Sys2Proof.Machine
end

