-- ==== Sys2Proof/Machine/Framing.lean ====
section
/-! DEFINITION. The wire frame: `Frame` (spec/41_codec_encode.md rule R115, the layout of spec/30_encoding.md R75)
and `FrameCheck` (spec/42_codec_decode.md rules R141 to R147). -/

namespace Sys2Proof.Machine

/-- The high byte of a checksum, `x[15:8]`. -/
def highByte (x : Word16) : Byte := x.extractLsb' 8 8

/-- The low byte of a checksum, `x[7:0]`. -/
def lowByte (x : Word16) : Byte := x.extractLsb' 0 8

/-- `Frame(p)` (R115): START, LENGTH, PAYLOAD, CHECKSUM high byte first (spec/20_memory.md R52), STOP. -/
def frame (c : Cfg) (p : List Byte) : List Byte :=
  [c.startByte, BitVec.ofNat 8 p.length] ++ p ++ [highByte (crc16 c p), lowByte (crc16 c p), c.stopByte]

/-- What `FrameCheck` returns (R147): a status that is not OK, or OK with the payload. -/
inductive FrameVerdict where
  | bad (st : FrameStatus)
  | good (payload : List Byte)
  deriving DecidableEq, Repr

/-- `FrameCheck(n, B)` (R147): the checks in the order of R142 to R146, the first failure ends it. -/
def frameCheck (c : Cfg) (n : Nat) (m : Memory) : FrameVerdict :=
  if n < 6 then .bad .eShort
  else if m.read 0 ≠ c.startByte then .bad .eStart
  else if (m.read 1).toNat = 0 then .bad .eLen
  else if n ≠ (m.read 1).toNat + 5 then .bad .eSize
  else if m.read ((m.read 1).toNat + 4) ≠ c.stopByte then .bad .eStop
  else if crc16 c (m.readRange 2 (m.read 1).toNat) ≠
      m.read ((m.read 1).toNat + 2) ++ m.read ((m.read 1).toNat + 3) then .bad .eCrc
  else .good (m.readRange 2 (m.read 1).toNat)

end Sys2Proof.Machine
end

