-- ==== Sys2Proof/Machine/Decoder.lean ====
section
/-! DEFINITION. The decoder side of the codec: the operation DEC (spec/42_codec_decode.md rules R150 and R151), and
the five wire payloads of spec/30_encoding.md R76 as the block meets them. A wire payload is no command word: the
only thing K2MIX does with one is what DEC does on a valid frame that carries it, and that is its meaning here
(notes/assumptions/4.md). -/

namespace Sys2Proof.Machine

/-- What `ParsePayload` returns (R150). -/
structure Parsed where
  kind : PayloadKind
  node : Byte
  val : Word32
  deriving DecidableEq, Repr

/-- The kind, node and value of an instruction that a payload decoded to (R150 rows 1 to 5). The payload decoder
answers none of the command-word operations; they would be RAW (row 6). -/
def parsedOf : Instr → Parsed
  | .setDuty v => ⟨.duty, 0, v⟩
  | .setCurrent v => ⟨.current, 0, v⟩
  | .setCurrentBrake v => ⟨.brake, 0, v⟩
  | .getValues => ⟨.getValues, 0, 0⟩
  | .setDutyRouted n v => ⟨.dutyRouted, n, v⟩
  | .mix | .disp | .dth _ | .esd | .esdr _ | .esc | .escb | .egv | .crc | .dec => ⟨.raw, 0, 0⟩

/-- `ParsePayload(p)` (R150). -/
def parsePayload (c : Cfg) (p : List Byte) : Parsed :=
  match decodePayload c p with
  | .ok i => parsedOf i
  | .error _ => ⟨.raw, 0, 0⟩

/-- What DEC writes for a valid frame with payload p (R151): `RXST <- 1`, `RXCMD <- p[0]`, `RXPLEN <- len(p)` and the
typed parse. -/
def acceptPayload (c : Cfg) (p : List Byte) (s : State) : State :=
  s.setDecoded .ok (p.headD 0) (BitVec.ofNat 8 p.length) (parsePayload c p).kind (parsePayload c p).node
    (parsePayload c p).val

/-- What DEC writes for a frame that is not valid (R151): the status, and 0 in the five other results. It is a
result, no fault (R152). -/
def rejectFrame (st : FrameStatus) (s : State) : State := s.setDecoded st 0 0 .raw 0 0

/-- DEC (R151) on a running block. -/
def decOp (c : Cfg) (s : State) : State :=
  match frameCheck c s.rxlen.toNat s.rxbuf with
  | .good p => acceptPayload c p s
  | .bad st => rejectFrame st s

/-- DEC. -/
def execDec (s : State) : Host.Outcome State Fault Refusal := .next (whenRunning (decOp Config.cfg) s)

/-- The wire payload SET_DUTY(v), found by DEC in a valid frame. -/
def execSetDuty (v : Word32) (s : State) : Host.Outcome State Fault Refusal :=
  .next (whenRunning (acceptPayload Config.cfg (payDuty Config.cfg v)) s)

/-- The wire payload SET_DUTY_ROUTED(n, v), found by DEC in a valid frame. -/
def execSetDutyRouted (n : Byte) (v : Word32) (s : State) : Host.Outcome State Fault Refusal :=
  .next (whenRunning (acceptPayload Config.cfg (payDutyRouted Config.cfg n v)) s)

/-- The wire payload SET_CURRENT(v), found by DEC in a valid frame. -/
def execSetCurrent (v : Word32) (s : State) : Host.Outcome State Fault Refusal :=
  .next (whenRunning (acceptPayload Config.cfg (payCurrent Config.cfg v)) s)

/-- The wire payload SET_CURRENT_BRAKE(v), found by DEC in a valid frame. -/
def execSetCurrentBrake (v : Word32) (s : State) : Host.Outcome State Fault Refusal :=
  .next (whenRunning (acceptPayload Config.cfg (payBrake Config.cfg v)) s)

/-- The wire payload GET_VALUES, found by DEC in a valid frame. -/
def execGetValues (s : State) : Host.Outcome State Fault Refusal :=
  .next (whenRunning (acceptPayload Config.cfg (payGetValues Config.cfg)) s)

end Sys2Proof.Machine
end

