-- ==== Sys2Proof/Machine/Encoder.lean ====
section
/-! DEFINITION. The encode operations ESD, ESDR, ESC, ESCB, EGV (spec/41_codec_encode.md rules R116 to R123). Each
builds one frame and writes `TXBUF` and `TXLEN` and nothing else (R118); none checks the range of `VAL` (R117). -/

namespace Sys2Proof.Machine

/-- Build the frame of a payload and write it back (R115, R118). -/
def buildFrame (c : Cfg) (p : List Byte) (s : State) : State := s.storeFrame (frame c p)

/-- ESD (R119) on a running block. -/
def esdOp (c : Cfg) (s : State) : State := buildFrame c (payDuty c s.val) s

/-- ESDR n (R120) on a running block. -/
def esdrOp (c : Cfg) (n : Byte) (s : State) : State := buildFrame c (payDutyRouted c n s.val) s

/-- ESC (R121) on a running block. -/
def escOp (c : Cfg) (s : State) : State := buildFrame c (payCurrent c s.val) s

/-- ESCB (R122) on a running block. -/
def escbOp (c : Cfg) (s : State) : State := buildFrame c (payBrake c s.val) s

/-- EGV (R123) on a running block. -/
def egvOp (c : Cfg) (s : State) : State := buildFrame c (payGetValues c) s

/-- ESD. -/
def execEsd (s : State) : Host.Outcome State Fault Refusal := .next (whenRunning (esdOp Config.cfg) s)

/-- ESDR n. -/
def execEsdr (n : Byte) (s : State) : Host.Outcome State Fault Refusal :=
  .next (whenRunning (esdrOp Config.cfg n) s)

/-- ESC. -/
def execEsc (s : State) : Host.Outcome State Fault Refusal := .next (whenRunning (escOp Config.cfg) s)

/-- ESCB. -/
def execEscb (s : State) : Host.Outcome State Fault Refusal := .next (whenRunning (escbOp Config.cfg) s)

/-- EGV. -/
def execEgv (s : State) : Host.Outcome State Fault Refusal := .next (whenRunning (egvOp Config.cfg) s)

end Sys2Proof.Machine
end

