-- ==== Sys2Proof/Machine/Mixer.lean ====
section
/-! DEFINITION. The mixing engine: the operation MIX (spec/40_mixing.md rules R90 to R96). All arithmetic is exact
integer arithmetic with one truncation toward zero (R93, R104). -/

namespace Sys2Proof.Machine

/-- The sum over the six axes. -/
def axisSum (f : Fin 6 → Int) : Int := f 0 + f 1 + f 2 + f 3 + f 4 + f 5

/-- `acc[i] = sum_k MM[k][i] * AX[k]` (R92). -/
def mixAcc (lane : Lane) (a : Fin 6 → Int) : Int := axisSum fun k => (lane.mm.get k).toInt * a k

/-- `num[i] = DIR[i] * acc[i] * 2 * MAXDUTY_U` (R93). -/
def mixNum (c : Cfg) (lane : Lane) (a : Fin 6 → Int) : Int :=
  lane.dir.toInt * mixAcc lane a * 2 * (c.maxDutyU : Int)

/-- `den = NORM_DEN2 * 2^COEF_FRAC` (R93). -/
def mixDen (c : Cfg) : Int := (c.normDen2 : Int) * 2 ^ c.coefFrac

/-- `out[i] = clamp(trunc0(num[i], den), -MAXDUTY_U, +MAXDUTY_U)` (R93, R94). -/
def mixLane (c : Cfg) (a : Fin 6 → Int) (lane : Lane) : Int :=
  clamp (trunc0 (mixNum c lane a) (mixDen c)) (-(c.maxDutyU : Int)) (c.maxDutyU : Int)

/-- `Mix(a)` (R96): one value for each thruster. -/
def mix (c : Cfg) (a : Fin 6 → Int) : List Int := c.lanes.map (mixLane c a)

/-- MIX (R95) on a running block: all lanes from one snapshot of `SP`. -/
def mixOp (c : Cfg) (s : State) : State := s.setTh ((mix c (axes s.sp)).map tc32)

/-- MIX. -/
def execMix (s : State) : Host.Outcome State Fault Refusal := .next (whenRunning (mixOp Config.cfg) s)

end Sys2Proof.Machine
end

