-- ==== Sys2Proof/Machine/Router.lean ====
section
/-! DEFINITION. The dispatch router: the operations DTH and DISP (spec/43_dispatch.md rules R160 to R166). -/

namespace Sys2Proof.Machine

/-- `NODE[i]` for a bus thruster i, 1 ≤ i < N_THR (spec/00_scope.md R7). It is asked for no other index. -/
def nodeOf (c : Cfg) (i : Nat) : Byte := (c.bus[i - 1]?.map (·.node)).getD 0

/-- `Route(i)` (R161): thruster 0 takes the plain frame on the local link, every other thruster the routed frame on
the bus. The value is always `TH[i]` (R162). -/
def route (c : Cfg) (s : State) : Nat → OutRecord
  | 0 => ⟨.localLink, 0, frame c (payDuty c (s.thrust 0))⟩
  | i + 1 => ⟨.bus, nodeOf c (i + 1), frame c (payDutyRouted c (nodeOf c (i + 1)) (s.thrust (i + 1)))⟩

/-- One dispatch step (R164, R166): build the frame, write it back (R118), emit the record (R163). -/
def sendThruster (c : Cfg) (s : State) (i : Nat) : State :=
  (s.storeFrame (route c s i).bytes).emit (route c s i)

/-- DTH i (R164) on a running block: BADIDX with the command word when i ≥ N_THR, else one dispatch step. -/
def dthOp (c : Cfg) (i : Byte) (s : State) : State :=
  if c.nThr ≤ i.toNat then s.takeFault .badidx (commandWord 0x03 i) else sendThruster c s i.toNat

/-- DISP (R166) on a running block: one dispatch step for each thruster, in ascending order. -/
def dispOp (c : Cfg) (s : State) : State := (List.range c.nThr).foldl (sendThruster c) s

/-- DTH i. -/
def execDth (i : Byte) (s : State) : Host.Outcome State Fault Refusal := .next (whenRunning (dthOp Config.cfg i) s)

/-- DISP. -/
def execDisp (s : State) : Host.Outcome State Fault Refusal := .next (whenRunning (dispOp Config.cfg) s)

end Sys2Proof.Machine
end

