-- ==== Sys2Proof/Machine/Dispatch.lean ====
section
/-! DEFINITION. The meaning of every instruction: one arm for each constructor of Instr. -/

namespace Sys2Proof.Machine

def exec (i : Instr) (s : State) : Host.Outcome State Fault Refusal :=
  match i with
  | .mix => Sys2Proof.Machine.execMix s
  | .disp => Sys2Proof.Machine.execDisp s
  | .dth i0 => Sys2Proof.Machine.execDth i0 s
  | .esd => Sys2Proof.Machine.execEsd s
  | .esdr n => Sys2Proof.Machine.execEsdr n s
  | .esc => Sys2Proof.Machine.execEsc s
  | .escb => Sys2Proof.Machine.execEscb s
  | .egv => Sys2Proof.Machine.execEgv s
  | .crc => Sys2Proof.Machine.execCrc s
  | .dec => Sys2Proof.Machine.execDec s
  | .setDuty v => Sys2Proof.Machine.execSetDuty v s
  | .setDutyRouted n v => Sys2Proof.Machine.execSetDutyRouted n v s
  | .setCurrent v => Sys2Proof.Machine.execSetCurrent v s
  | .setCurrentBrake v => Sys2Proof.Machine.execSetCurrentBrake v s
  | .getValues => Sys2Proof.Machine.execGetValues s

end Sys2Proof.Machine
end

