-- ==== Sys2Proof/Machine/Port.lean ====
section
/-! DEFINITION. The host's side of the block: the command port (spec/30_encoding.md rule R70, spec/60_exceptions.md
R180), host reads and writes of the named registers (spec/10_state.md R36, spec/20_memory.md R55 to R58), and the
host actions of spec/30_encoding.md R81. -/

namespace Sys2Proof.Machine

/-- A host write (R36): the register takes the low bits of v that its width has (R57); a write to a register without
"w" is ignored. -/
def State.hostWrite (s : State) : HostReg → Word64 → State
  | .sp, v => s.setSp v
  | .spField j, v => s.setSp (setSpField s.sp j (v.setWidth 8))
  | .ax k, v => s.setSp (setSpField s.sp ⟨k.val, by omega⟩ (v.setWidth 8))
  | .val, v => s.setVal (v.setWidth 32)
  | .rxbuf o, v => s.setRxByte o (v.setWidth 8)
  | .rxlen, v => s.setRxlen (v.setWidth 16)
  | .th _, _ | .txbuf _, _ | .txlen, _ | .rxst, _ | .rxcmd, _ | .rxplen, _ | .rxkind, _ | .rxnode, _
  | .rxval, _ | .crcr, _ | .err, _ | .errinfo, _ => s

/-- What a host read delivers (R36: "the host may read it and gets the current value"), in the low bits that the
register's width has. -/
def State.hostRead (s : State) : HostReg → Word64
  | .sp => s.sp
  | .spField j => (spField s.sp j).setWidth 64
  | .ax k => (axisByte s.sp k).setWidth 64
  | .th i => (s.thrust i).setWidth 64
  | .val => s.val.setWidth 64
  | .txbuf o => (s.txbuf.read o).setWidth 64
  | .txlen => s.txlen.setWidth 64
  | .rxbuf o => (s.rxbuf.read o).setWidth 64
  | .rxlen => s.rxlen.setWidth 64
  | .rxst => s.rxst.setWidth 64
  | .rxcmd => s.rxcmd.setWidth 64
  | .rxplen => s.rxplen.setWidth 64
  | .rxkind => s.rxkind.setWidth 64
  | .rxnode => s.rxnode.setWidth 64
  | .rxval => s.rxval.setWidth 64
  | .crcr => s.crcr.setWidth 64
  | .err => s.err.setWidth 64
  | .errinfo => s.errinfo.setWidth 64

/-- The width of a host access in bits (spec/20_memory.md R57). -/
def regWidth : HostReg → Nat
  | .sp => 64
  | .th _ | .val | .rxval => 32
  | .rxlen | .crcr | .errinfo => 16
  | .spField _ | .ax _ | .txbuf _ | .txlen | .rxbuf _ | .rxst | .rxcmd | .rxplen | .rxkind | .rxnode | .err => 8

/-- A write of the command word w to the command port, in the order of R180: the halt check (R179: the word is
discarded), the decode (R74: ILLOP), then the operation with its own check. -/
def issueCommand (w : Word16) (s : State) : Host.Outcome State Fault Refusal :=
  if s.halted then .next s
  else match decodeCommand w with
    | .ok i => exec i s
    | .error _ => .next (s.takeFault .illop w)

/-- One host action takes effect (R61: wholly before or wholly after any operation). A read changes nothing (R58).
An access to a location the build does not have stops the machine by name (notes/assumptions/6.md). -/
def performAction (a : HostAction) (s : State) : Host.Outcome State Fault Refusal :=
  match a with
  | .command w => issueCommand w s
  | .write r v => if r.present Config.cfg then .next (s.hostWrite r v) else .fault (.noSuchLocation r)
  | .read r => if r.present Config.cfg then .next s else .fault (.noSuchLocation r)
  | .reset => .next (s.resetBlock Config.cfg)

/-- The block's next step: the oldest pending host action takes effect. With none pending the block is idle and keeps
all its state (R33, spec/60_exceptions.md R186). -/
def stepBlock (s : State) : Host.Outcome State Fault Refusal :=
  match s.hostStream with
  | [] => .next s
  | a :: rest => performAction a (s.setStream rest)

/-- `WR RXBUF, b0 b1 …` of R81 from offset o on: one byte write for each byte. -/
def writeRxbuf : Nat → List Byte → List HostAction
  | _, [] => []
  | o, b :: bs => .write (.rxbuf o) (b.setWidth 64) :: writeRxbuf (o + 1) bs

/-- `TICK` of R81: MIX then DISP. -/
def tick : List HostAction := [.command 0x0001, .command 0x0002]

/-- `APPLY v` of R81. -/
def applySetpoint (v : Word64) : List HostAction := [.write .sp v]

/-- The state in which the instruction of the table word w of nbits bits is what the block meets next: a command word
is the next host action; a wire payload stands, framed, in `RXBUF`, and DEC is the next host action
(notes/assumptions/5.md). -/
def presentWord (c : Cfg) (s : State) (nbits w : Nat) : State :=
  match encodedOfTableWord nbits w with
  | .command cw => s.setStream (.command cw :: s.hostStream)
  | .payload p =>
    { s with
      rxbuf := s.rxbuf.writeRange 0 (frame c p)
      rxlen := BitVec.ofNat 16 (frame c p).length
      hostStream := .command (commandWord 0x21 0) :: s.hostStream }

end Sys2Proof.Machine
end

