-- ==== Sys2Proof/Machine/Step.lean ====
section
/-! DEFINITION. One step of the machine, and where the host places an instruction for it. -/

namespace Sys2Proof.Machine

/-- One step: the oldest pending host action takes effect. -/
def step (s : State) : Host.Outcome State Fault Refusal := stepBlock s

/-- The state s with the instruction of the table word w placed where the next step finds it. -/
def State.withFetchWord (s : State) (nbits w : Nat) : State := presentWord Config.cfg s nbits w

end Sys2Proof.Machine
end

