-- ==== Sys2Proof/Safety.lean ====
section
/-! DEFINITION. The terms the claims use: the state invariant of spec/10_state.md rule R38, runs of several
instructions, and what it means that a byte of memory is unchanged. -/

namespace Sys2Proof.Machine

/-- A record the router may emit (R38, last item). -/
def OutRecord.legal (r : OutRecord) : Prop :=
  (r.transport = .localLink ∧ r.node = 0 ∧ r.bytes.length = 10) ∨ (r.transport = .bus ∧ r.bytes.length = 12)

/-- The invariant of R38, for a build with the configuration c, with what the model's representation adds: as many
thruster registers as thrusters, and both buffers in canonical form and inside their space (R50). -/
structure State.Inv (c : Cfg) (s : State) : Prop where
  /-- There are N_THR thruster registers (R25). -/
  th_count : s.th.length = c.nThr
  /-- `-MAXDUTY_U <= TH[i] <= MAXDUTY_U` (R97). -/
  th_bound : ∀ x ∈ s.th, -(c.maxDutyU : Int) ≤ x.toInt ∧ x.toInt ≤ (c.maxDutyU : Int)
  /-- "`TXLEN` is 0 or one of 6, 10, 12". -/
  txlen_legal : s.txlen = 0 ∨ s.txlen = 6 ∨ s.txlen = 10 ∨ s.txlen = 12
  /-- "`RXST` is 0 to 7". -/
  rxst_legal : s.rxst.toNat ≤ 7
  /-- "when `RXST` is not 1, `RXCMD = RXPLEN = RXKIND = RXNODE = RXVAL = 0`". -/
  results_clear : s.rxst ≠ 1 → s.rxcmd = 0 ∧ s.rxplen = 0 ∧ s.rxkind = 0 ∧ s.rxnode = 0 ∧ s.rxval = 0
  /-- "`ERR` is 0 to 3". -/
  err_legal : s.err.toNat ≤ 3
  /-- "`ERRINFO` is 0 when `ERR` is 0". -/
  errinfo_clear : s.err = 0 → s.errinfo = 0
  /-- The records of `OUT`. -/
  out_legal : ∀ r ∈ s.out, r.legal
  /-- `TXBUF` is in canonical form. -/
  txbuf_wf : s.txbuf.wf
  /-- `TXBUF` has 21 bytes. -/
  txbuf_within : s.txbuf.within txFrameMax
  /-- `RXBUF` is in canonical form. -/
  rxbuf_wf : s.rxbuf.wf
  /-- `RXBUF` has 260 bytes. -/
  rxbuf_within : s.rxbuf.within rxFrameMax

/-- Several instructions, one after another (spec/20_memory.md R60). -/
def runInstrs : List Instr → State → Host.Outcome State Fault Refusal
  | [], s => .next s
  | i :: is, s =>
    match exec i s with
    | .next t => runInstrs is t
    | .fault r => .fault r
    | .refused r => .refused r

/-- Every byte of `TXBUF` from offset n on reads in t as in s. -/
def txSameFrom (n : Nat) (s t : State) : Prop := ∀ o, n ≤ o → t.txbuf.read o = s.txbuf.read o

/-- Every byte of `RXBUF` reads in t as in s. -/
def rxSame (s t : State) : Prop := ∀ o, t.rxbuf.read o = s.rxbuf.read o

/-- Every byte of both buffers reads in t as in s: nothing was stored. -/
def sameMemory (s t : State) : Prop := txSameFrom 0 s t ∧ rxSame s t

end Sys2Proof.Machine
end

