-- ==== Sys2Proof/Certificates/Slice0/Obligations.lean ====
section
/-! DEFINITION. The statements about K2MIX for the provers. `Config.cfg` is the opaque configuration of the build, so a
statement that names it says what it says for every legal configuration (spec/00_scope.md rule R9); a statement that
quantifies over `c : Cfg` is about the parametric operations that the meanings call with `Config.cfg`. -/

open Sys2Proof Sys2Proof.Machine

/-! ## Encodings -/

/-- Decode and encode agree: every instruction, with every operand at every value, is read back from its bits, in every
legal build (spec/30_encoding.md R73, R76; spec/42_codec_decode.md R150). -/
def Obligations.EncodedInstructionDecodesToItself : Prop :=
  ∀ c : Cfg, c.wf → ∀ i : Instr, decode c (encode c i) = .ok i

/-- The other direction: bits that decode to an instruction are exactly its encoding, so no two words, and no two
payloads, mean the same. -/
def Obligations.DecodedBitsAreTheEncoding : Prop :=
  ∀ (c : Cfg) (e : Encoded) (i : Instr), decode c e = .ok i → encode c i = e

/-- A few words written out from the spec's encodings (spec/95_test_vectors.md V81 to V88, and the payload of V39 with
the build's own command-ids) decode to the instructions they stand for. -/
def Obligations.SampleBitsDecode : Prop :=
  (decodeCommand 0x0001 = .ok .mix ∧ decodeCommand 0x0002 = .ok .disp ∧ decodeCommand 0xFF03 = .ok (.dth 255) ∧
    decodeCommand 0x0B11 = .ok (.esdr 11) ∧ decodeCommand 0x0020 = .ok .crc ∧ decodeCommand 0x0021 = .ok .dec) ∧
  ∀ c : Cfg,
    decodePayload c [c.cmdForward, 0x0B, c.cmdSetDuty, 0xFF, 0xFF, 0x8A, 0xD0]
      = .ok (.setDutyRouted 11 (BitVec.ofInt 32 (-30000)))

/-- R73 and R74: a word selects at most one row; which words are legal; and an illegal word, on a running block, raises
ILLOP and changes no other state. -/
def Obligations.IllegalCommandWordRaisesIllop : Prop :=
  (∀ w : Word16, (commandTable.filter (·.selects w)).length ≤ 1) ∧
  (∀ w : Word16, (∃ r ∈ commandTable, r.selects w = true) ↔
    (w.toNat % 256 = 0x03 ∨ w.toNat % 256 = 0x11 ∨
      w.toNat ∈ [0x01, 0x02, 0x10, 0x12, 0x13, 0x14, 0x20, 0x21])) ∧
  ∀ (w : Word16) (s : State) (rest : List HostAction),
    (∀ r ∈ commandTable, r.selects w = false) → s.hostStream = .command w :: rest → s.err = 0 →
      step s = .next { s with err := 1, errinfo := w, hostStream := rest }

/-! ## The step -/

/-- R70: a command word written to the command port of a running block executes the instruction it decodes to, once;
what the step adds is that the host action is used up. -/
def Obligations.StepRunsTheDecodedInstruction : Prop :=
  ∀ (s : State) (w : Word16) (rest : List HostAction) (i : Instr),
    s.hostStream = .command w :: rest → s.err = 0 → decodeCommand w = .ok i →
      step s = exec i { s with hostStream := rest }

/-- R179: a faulted block discards every command word, legal or not, a host read changes nothing (what reads deliver is
in `HostReadsBackWhatItWrote`, for every state), and host writes to the writable registers (`SP` and its `AX` views,
`VAL`, `RXBUF`, `RXLEN`) still store their value. Three points are the model's reading: that `exec` of an instruction has
the halt check in itself (notes/assumptions/11.md), that the wire payloads, which are no command words, have it too
(notes/assumptions/4.md), and that a written value is cut to the register's width (notes/assumptions/8.md). -/
def Obligations.FaultedBlockDiscardsCommands : Prop :=
  ∀ s : State, s.err ≠ 0 →
    (∀ i : Instr, exec i s = .next s) ∧
    (∀ (w : Word16) (rest : List HostAction), s.hostStream = .command w :: rest →
      step s = .next { s with hostStream := rest }) ∧
    (∀ (r : HostReg) (rest : List HostAction), s.hostStream = .read r :: rest → r.present Config.cfg = true →
      step s = .next { s with hostStream := rest }) ∧
    (∀ (v : Word64) (rest : List HostAction), s.hostStream = .write .sp v :: rest →
      step s = .next { s with sp := v, hostStream := rest }) ∧
    (∀ (k : Fin 6) (v : Word64) (rest : List HostAction), s.hostStream = .write (.ax k) v :: rest →
      ∃ t, step s = .next t ∧ axisByte t.sp k = v.extractLsb' 0 8 ∧
        (∀ j : Fin 8, j.val ≠ k.val → spField t.sp j = spField s.sp j) ∧
        t = { s with sp := t.sp, hostStream := rest }) ∧
    (∀ (v : Word64) (rest : List HostAction), s.hostStream = .write .val v :: rest →
      step s = .next { s with val := v.setWidth 32, hostStream := rest }) ∧
    (∀ (o : Nat) (v : Word64) (rest : List HostAction), s.hostStream = .write (.rxbuf o) v :: rest → o < 260 →
      s.rxbuf.wf → ∃ t, step s = .next t ∧ t.rxbuf.read o = v.extractLsb' 0 8 ∧
        (∀ x, x ≠ o → t.rxbuf.read x = s.rxbuf.read x) ∧ t = { s with rxbuf := t.rxbuf, hostStream := rest }) ∧
    (∀ (v : Word64) (rest : List HostAction), s.hostStream = .write .rxlen v :: rest →
      step s = .next { s with rxlen := v.setWidth 16, hostStream := rest })

/-- R179, R181: over any number of steps in which the host asks for no reset, a recorded fault stays as it is, and no
result of an operation changes. -/
def Obligations.FaultStaysUntilReset : Prop :=
  ∀ (k : Nat) (s t : State), s.err ≠ 0 → HostAction.reset ∉ s.hostStream →
    Host.Core.run Sys2Proof.core k s = .next t →
      t.err = s.err ∧ t.errinfo = s.errinfo ∧ t.th = s.th ∧ t.txbuf = s.txbuf ∧ t.txlen = s.txlen ∧
      t.crcr = s.crcr ∧ t.out = s.out ∧ t.rxst = s.rxst ∧ t.rxcmd = s.rxcmd ∧ t.rxplen = s.rxplen ∧
      t.rxkind = s.rxkind ∧ t.rxnode = s.rxnode ∧ t.rxval = s.rxval

/-- R33, R186, R58: an idle block keeps all its state, and so does one that the host reads. -/
def Obligations.IdleBlockAndHostReadsChangeNothing : Prop :=
  ∀ s : State,
    (s.hostStream = [] → step s = .next s) ∧
    (∀ (r : HostReg) (rest : List HostAction), s.hostStream = .read r :: rest → r.present Config.cfg = true →
      step s = .next { s with hostStream := rest })

/-- R30: nothing removes a record from `OUT` or reorders it; a step other than reset only appends. -/
def Obligations.OutputHistoryOnlyGrows : Prop :=
  ∀ (s t : State), step s = .next t → (∀ rest, s.hostStream ≠ .reset :: rest) → ∃ rs, t.out = s.out ++ rs

/-! ## The invariant of R38 -/

/-- R38: the invariant holds after every step, an operation or a host access or a reset, from every state in which it
holds. -/
def Obligations.StepKeepsInvariant : Prop :=
  ∀ (s t : State), s.Inv Config.cfg → step s = .next t → t.Inv Config.cfg

/-- R38: the invariant holds after reset. -/
def Obligations.ResetHasInvariant : Prop := State.reset.Inv Config.cfg

/-- R200, R37: reset, asked for in any state, a faulted one too, puts every piece of state to its reset value. -/
def Obligations.ResetClearsEverything : Prop :=
  ∀ (s : State) (rest : List HostAction), s.hostStream = .reset :: rest →
    ∃ t, step s = .next t ∧ t.sp = 0 ∧ t.th = List.replicate Config.cfg.nThr 0 ∧ t.val = 0 ∧
      (∀ o, t.txbuf.read o = 0) ∧ t.txlen = 0 ∧ (∀ o, t.rxbuf.read o = 0) ∧ t.rxlen = 0 ∧ t.rxst = 0 ∧
      t.rxcmd = 0 ∧ t.rxplen = 0 ∧ t.rxkind = 0 ∧ t.rxnode = 0 ∧ t.rxval = 0 ∧ t.crcr = 0 ∧ t.out = [] ∧
      t.err = 0 ∧ t.errinfo = 0 ∧ t = { State.reset with hostStream := rest }

/-! ## MIX -/

/-- R95 with R92 to R94: MIX completes; `TH[i]` becomes the pattern of
clamp(trunc0(DIR[i] * (sum over k of MM[k][i] * AX[k]) * 2 * MAXDUTY_U, NORM_DEN2 * 2^COEF_FRAC)), with the rounding
(`Int.tdiv`) and the clamp said in the library's words, for every thruster; nothing else changes. -/
def Obligations.MixWritesEveryThruster : Prop :=
  ∀ s : State, s.err = 0 → ∃ t, exec .mix s = .next t ∧
    t.th.length = Config.cfg.nThr ∧
    (∀ (i : Nat) (lane : Lane), Config.cfg.lanes[i]? = some lane →
      t.th[i]? = some (BitVec.ofInt 32
        (max (-(Config.cfg.maxDutyU : Int)) (min (Config.cfg.maxDutyU : Int)
          (Int.tdiv
            (lane.dir.toInt *
              (((List.finRange 6).map fun k =>
                (lane.mm.get k).toInt * (s.sp.extractLsb' (8 * k.val) 8).toInt).sum) *
              2 * (Config.cfg.maxDutyU : Int))
            ((Config.cfg.normDen2 : Int) * 2 ^ Config.cfg.coefFrac)))))) ∧
    t = { s with th := t.th } ∧ sameMemory s t

/-- R97: after every MIX every `TH[i]` is inside the ceiling, and so a legal duty value. -/
def Obligations.MixStaysInsideTheCeiling : Prop :=
  ∀ (s t : State), s.err = 0 → exec .mix s = .next t → ∀ x ∈ t.th,
    (-(Config.cfg.maxDutyU : Int) ≤ x.toInt ∧ x.toInt ≤ (Config.cfg.maxDutyU : Int)) ∧
    (-100000 ≤ x.toInt ∧ x.toInt ≤ 100000)

/-- R98: two MIX operations with the same `SP` give the same `TH`, whatever else differs; with R24, the two need only
agree on the six axes: LIGHT and MANIP have no influence. -/
def Obligations.MixDependsOnTheAxesOnly : Prop :=
  ∀ (s s' t t' : State), s.err = 0 → s'.err = 0 → s.sp.extractLsb' 0 48 = s'.sp.extractLsb' 0 48 →
    exec .mix s = .next t → exec .mix s' = .next t' → t.th = t'.th

/-- R100: `Mix` is odd in the axes, and reversing `DIR[i]` negates lane i. -/
def Obligations.MixIsOdd : Prop :=
  (∀ (s s' t t' : State), s.err = 0 → s'.err = 0 → (∀ k, axes s'.sp k = -axes s.sp k) →
    exec .mix s = .next t → exec .mix s' = .next t' →
      ∀ i, (t'.thrust i).toInt = -(t.thrust i).toInt) ∧
  (∀ (c : Cfg) (mm : Vector Byte 6) (a : Fin 6 → Int), mixLane c a ⟨mm, .minus⟩ = -mixLane c a ⟨mm, .plus⟩)

/-- R99: lane i depends on its own column and sign and on the shared constants; not on any other lane, nor on how many
there are, nor on the codec's or the router's constants. -/
def Obligations.LanesAreIndependent : Prop :=
  ∀ (c c' : Cfg) (a : Fin 6 → Int) (i : Nat), c'.maxDutyU = c.maxDutyU → c'.normDen2 = c.normDen2 →
    c'.coefFrac = c.coefFrac → c'.lanes[i]? = c.lanes[i]? → (mix c' a)[i]? = (mix c a)[i]?

/-- R101: full scale. With divisor 127.0 and no fraction bits, a thruster driven by one axis with coefficient 1 and
direction +1 reaches exactly the ceiling at 127 and exactly its negative at -127; with divisor 127.5 it reaches
trunc0(254 * MAXDUTY_U, 255); a thruster none of whose non-zero coefficients meets a non-zero axis stays at 0. -/
def Obligations.SingleAxisReachesFullScale : Prop :=
  (∀ (c : Cfg) (lane : Lane) (k : Fin 6) (a : Fin 6 → Int), c.wf → c.coefFrac = 0 → lane.dir = .plus →
    (lane.mm.get k).toInt = 1 → (∀ j, j ≠ k → (lane.mm.get j).toInt = 0) →
      (c.normDen2 = 254 → a k = 127 → mixLane c a lane = c.maxDutyU) ∧
      (c.normDen2 = 254 → a k = -127 → mixLane c a lane = -(c.maxDutyU : Int)) ∧
      (c.normDen2 = 255 → a k = 127 → mixLane c a lane = Int.tdiv (254 * (c.maxDutyU : Int)) 255)) ∧
  (∀ (c : Cfg) (lane : Lane) (a : Fin 6 → Int), (∀ k, (lane.mm.get k).toInt = 0 ∨ a k = 0) → mixLane c a lane = 0)

/-- R102, with R92 and R93: the widths that suffice, for every value of `SP` and every legal build: the products, the
sum of six, the scaled numerator, the divisor and the quotient; and the rounding never increases the magnitude. -/
def Obligations.MixerWidthsSuffice : Prop :=
  ∀ (c : Cfg) (lane : Lane) (sp : Word64), c.wf →
    (∀ k, -16256 ≤ (lane.mm.get k).toInt * axes sp k ∧ (lane.mm.get k).toInt * axes sp k ≤ 16384) ∧
    |mixAcc lane (axes sp)| ≤ 98304 ∧
    |mixNum c lane (axes sp)| < 2 ^ 35 ∧
    254 ≤ mixDen c ∧ mixDen c ≤ 32640 ∧
    |trunc0 (mixNum c lane (axes sp)) (mixDen c)| < 2 ^ 27 ∧
    |trunc0 (mixNum c lane (axes sp)) (mixDen c)| * mixDen c ≤ |mixNum c lane (axes sp)|

/-! ## The encoder -/

/-- R119, R121, R122 with R75, R76, R116 to R118: ESD, ESC and ESCB complete for every `VAL`; the frame of
[command-id] || be32(VAL) stands in `TXBUF[0..9]`, `TXLEN` is 10, and nothing else changes. -/
def Obligations.ValueEncodersBuildTheirFrame : Prop :=
  ∀ (s : State), s.err = 0 → s.txbuf.wf →
    ∀ x ∈ [(Instr.esd, Config.cfg.cmdSetDuty), (Instr.esc, Config.cfg.cmdSetCurrent),
        (Instr.escb, Config.cfg.cmdSetCurrentBrake)],
      ∃ (t : State) (p : List Byte), exec x.1 s = .next t ∧
        p = [x.2, s.val.extractLsb' 24 8, s.val.extractLsb' 16 8, s.val.extractLsb' 8 8, s.val.extractLsb' 0 8] ∧
        t.txlen = 10 ∧
        t.txbuf.readRange 0 10 = [Config.cfg.startByte, 5] ++ p ++
          [(crc16 Config.cfg p).extractLsb' 8 8, (crc16 Config.cfg p).extractLsb' 0 8, Config.cfg.stopByte] ∧
        txSameFrom 10 s t ∧ rxSame s t ∧ t = { s with txbuf := t.txbuf, txlen := t.txlen }

/-- R120: ESDR n completes for every n and every `VAL`; the routed frame stands in `TXBUF[0..11]`, `TXLEN` is 12, and
nothing else changes. -/
def Obligations.RoutedEncoderBuildsItsFrame : Prop :=
  ∀ (s : State) (n : Byte), s.err = 0 → s.txbuf.wf →
    ∃ (t : State) (p : List Byte), exec (.esdr n) s = .next t ∧
      p = [Config.cfg.cmdForward, n, Config.cfg.cmdSetDuty, s.val.extractLsb' 24 8, s.val.extractLsb' 16 8,
        s.val.extractLsb' 8 8, s.val.extractLsb' 0 8] ∧
      t.txlen = 12 ∧
      t.txbuf.readRange 0 12 = [Config.cfg.startByte, 7] ++ p ++
        [(crc16 Config.cfg p).extractLsb' 8 8, (crc16 Config.cfg p).extractLsb' 0 8, Config.cfg.stopByte] ∧
      txSameFrom 12 s t ∧ rxSame s t ∧ t = { s with txbuf := t.txbuf, txlen := t.txlen }

/-- R123: EGV completes; its frame is a constant of the build, `TXLEN` is 6, and nothing else changes. -/
def Obligations.GetValuesEncoderBuildsItsFrame : Prop :=
  ∀ (s : State), s.err = 0 → s.txbuf.wf →
    ∃ t, exec .egv s = .next t ∧ t.txlen = 6 ∧
      t.txbuf.readRange 0 6 = [Config.cfg.startByte, 1, Config.cfg.cmdGetValues,
        (crc16 Config.cfg [Config.cfg.cmdGetValues]).extractLsb' 8 8,
        (crc16 Config.cfg [Config.cfg.cmdGetValues]).extractLsb' 0 8, Config.cfg.stopByte] ∧
      txSameFrom 6 s t ∧ rxSame s t ∧ t = { s with txbuf := t.txbuf, txlen := t.txlen }

/-- R27, R204: bytes at `TXLEN` and above are those of an earlier, longer frame: after ESDR n and then EGV, `TXLEN` is 6
and `TXBUF[6..11]` still holds the last six bytes of the routed frame. -/
def Obligations.ShorterFrameLeavesStaleBytes : Prop :=
  ∀ (s : State) (n : Byte), s.err = 0 → s.txbuf.wf →
    ∃ t t', runInstrs [.esdr n] s = .next t ∧ runInstrs [.esdr n, .egv] s = .next t' ∧ t'.txlen = 6 ∧
      t'.txbuf.readRange 6 6 = t.txbuf.readRange 6 6 ∧
      t'.txbuf.readRange 9 3 = [
        (crc16 Config.cfg (payDutyRouted Config.cfg n s.val)).extractLsb' 8 8,
        (crc16 Config.cfg (payDutyRouted Config.cfg n s.val)).extractLsb' 0 8, Config.cfg.stopByte]

/-! ## The checksum -/

/-- R124, R176: CRC writes the checksum of `RXBUF[0..RXLEN-1]` to `CRCR`, and raises BADLEN exactly when `RXLEN` exceeds
260. R111, R112, R113, in numbers, without the model's own byte and bit steps: of no bytes the checksum is 0x0000 (CCITT)
or 0xFFFF (A001); one more byte b enters at the high end (CCITT) or the low end (A001), and eight bit steps follow, most
or least significant bit first; and the checksum of "123456789" is 0x31C3 or 0x4B37. -/
def Obligations.CrcOperationChecksTheBuffer : Prop :=
  (∀ s : State, s.err = 0 → s.rxlen.toNat ≤ 260 →
    exec .crc s = .next { s with crcr := crc16 Config.cfg (s.rxbuf.readRange 0 s.rxlen.toNat) }) ∧
  (∀ s : State, s.err = 0 → 260 < s.rxlen.toNat →
    exec .crc s = .next { s with err := 3, errinfo := 0x0020 }) ∧
  (∀ c : Cfg, c.crcVariant = .ccitt →
    crc16 c [] = 0x0000 ∧
    (∀ (p : List Byte) (b : Byte), (crc16 c (p ++ [b])).toNat =
      (fun r : Nat => if 0x8000 ≤ r then (2 * r % 0x10000) ^^^ 0x1021 else 2 * r % 0x10000)^[8]
        ((crc16 c p).toNat ^^^ (b.toNat * 256))) ∧
    crc16 c [0x31, 0x32, 0x33, 0x34, 0x35, 0x36, 0x37, 0x38, 0x39] = 0x31C3) ∧
  (∀ c : Cfg, c.crcVariant = .a001 →
    crc16 c [] = 0xFFFF ∧
    (∀ (p : List Byte) (b : Byte), (crc16 c (p ++ [b])).toNat =
      (fun r : Nat => if r % 2 = 1 then (r / 2) ^^^ 0xA001 else r / 2)^[8] ((crc16 c p).toNat ^^^ b.toNat)) ∧
    crc16 c [0x31, 0x32, 0x33, 0x34, 0x35, 0x36, 0x37, 0x38, 0x39] = 0x4B37)

/-- R114 (b): in either variant, flipping any one bit of any byte of a sequence changes its checksum; (c) the two
variants differ on the payload `04`. -/
def Obligations.CrcSeesEverySingleBitError : Prop :=
  (∀ (c : Cfg) (p : List Byte) (j : Nat) (b : Fin 8) (x : Byte), p[j]? = some x →
    crc16 c (p.set j (x ^^^ ((1 : Byte) <<< b.val))) ≠ crc16 c p) ∧
  (crcCcitt [0x04] = 0x4084 ∧ crcA001 [0x04] = 0x83BE)

/-! ## The frame and its validation -/

/-- R75, R115: the layout of a frame, offset by offset, and that `Frame` is injective. -/
def Obligations.FrameHasTheWireLayout : Prop :=
  ∀ (c : Cfg) (p : List Byte), 1 ≤ p.length → p.length ≤ 255 →
    (frame c p).length = p.length + 5 ∧
    (frame c p)[0]? = some c.startByte ∧
    ((frame c p)[1]?).map BitVec.toNat = some p.length ∧
    (∀ j, j < p.length → (frame c p)[j + 2]? = p[j]?) ∧
    (frame c p)[p.length + 2]? = some ((crc16 c p).extractLsb' 8 8) ∧
    (frame c p)[p.length + 3]? = some ((crc16 c p).extractLsb' 0 8) ∧
    (frame c p)[p.length + 4]? = some c.stopByte ∧
    (∀ q : List Byte, 1 ≤ q.length → q.length ≤ 255 → frame c q = frame c p → q = p)

/-- R148: `FrameCheck` accepts exactly the frames of payloads of 1 to 255 bytes. -/
def Obligations.FrameCheckAcceptsExactlyTheFrames : Prop :=
  ∀ (c : Cfg) (n : Nat) (m : Memory) (p : List Byte),
    frameCheck c n m = .good p ↔ (1 ≤ p.length ∧ p.length ≤ 255 ∧ m.readRange 0 n = frame c p)

/-- R149: every single-bit corruption of a valid frame, its length kept, is rejected: a flipped bit in START gives
E_START; in LENGTH E_LEN or E_SIZE; in the payload or a checksum byte E_CRC; in STOP E_STOP. -/
def Obligations.SingleBitCorruptionIsRejected : Prop :=
  ∀ (c : Cfg) (p : List Byte) (m : Memory) (j : Nat) (b : Fin 8) (x : Byte),
    1 ≤ p.length → p.length ≤ 255 → (frame c p)[j]? = some x →
    m.readRange 0 (p.length + 5) = (frame c p).set j (x ^^^ ((1 : Byte) <<< b.val)) →
      (j = 0 → frameCheck c (p.length + 5) m = .bad .eStart) ∧
      (j = 1 → frameCheck c (p.length + 5) m = .bad .eLen ∨ frameCheck c (p.length + 5) m = .bad .eSize) ∧
      (2 ≤ j → j < p.length + 4 → frameCheck c (p.length + 5) m = .bad .eCrc) ∧
      (j = p.length + 4 → frameCheck c (p.length + 5) m = .bad .eStop)

/-! ## DEC and the wire payloads -/

/-- R151, R141 to R147: DEC completes for every `RXLEN` and every buffer; the first defect in the order of R141 decides
`RXST`; without a defect `RXST` is 1; with one, the five other results are 0. Nothing but the decoder results
changes. -/
def Obligations.DecReportsTheFirstDefect : Prop :=
  ∀ s : State, s.err = 0 → ∃ t, exec .dec s = .next t ∧
    t.rxst =
      (if s.rxlen.toNat < 6 then 2
      else if s.rxbuf.read 0 ≠ Config.cfg.startByte then 3
      else if s.rxbuf.read 1 = 0 then 4
      else if s.rxlen.toNat ≠ (s.rxbuf.read 1).toNat + 5 then 5
      else if s.rxbuf.read (s.rxlen.toNat - 1) ≠ Config.cfg.stopByte then 6
      else if (crc16 Config.cfg (s.rxbuf.readRange 2 (s.rxlen.toNat - 5))).toNat ≠
          (s.rxbuf.read (s.rxlen.toNat - 3)).toNat * 256 + (s.rxbuf.read (s.rxlen.toNat - 2)).toNat then 7
      else 1) ∧
    (t.rxst ≠ 1 → t.rxcmd = 0 ∧ t.rxplen = 0 ∧ t.rxkind = 0 ∧ t.rxnode = 0 ∧ t.rxval = 0) ∧
    t = { s with rxst := t.rxst, rxcmd := t.rxcmd, rxplen := t.rxplen, rxkind := t.rxkind, rxnode := t.rxnode,
                 rxval := t.rxval } ∧
    sameMemory s t

/-- R150, R151: on a valid frame DEC writes the command-id and the length of the payload, and the kind, the node and the
value of the first row of R150 that applies; the value is the big-endian reading of the payload's last four bytes. -/
def Obligations.DecClassifiesThePayload : Prop :=
  ∀ (s : State) (p : List Byte) (t : State), s.err = 0 → 1 ≤ p.length → p.length ≤ 255 →
    s.rxlen.toNat = p.length + 5 → s.rxbuf.readRange 0 (p.length + 5) = frame Config.cfg p →
    exec .dec s = .next t →
      t.rxst = 1 ∧ some t.rxcmd = p[0]? ∧ t.rxplen.toNat = p.length ∧
      (if p.length = 5 ∧ p[0]? = some Config.cfg.cmdSetDuty then
        t.rxkind = 1 ∧ t.rxnode = 0 ∧ be32 t.rxval = p.drop 1
      else if p.length = 5 ∧ p[0]? = some Config.cfg.cmdSetCurrent then
        t.rxkind = 2 ∧ t.rxnode = 0 ∧ be32 t.rxval = p.drop 1
      else if p.length = 5 ∧ p[0]? = some Config.cfg.cmdSetCurrentBrake then
        t.rxkind = 3 ∧ t.rxnode = 0 ∧ be32 t.rxval = p.drop 1
      else if p.length = 1 ∧ p[0]? = some Config.cfg.cmdGetValues then
        t.rxkind = 4 ∧ t.rxnode = 0 ∧ t.rxval = 0
      else if p.length = 7 ∧ p[0]? = some Config.cfg.cmdForward ∧ p[2]? = some Config.cfg.cmdSetDuty then
        t.rxkind = 5 ∧ some t.rxnode = p[1]? ∧ be32 t.rxval = p.drop 3
      else t.rxkind = 0 ∧ t.rxnode = 0 ∧ t.rxval = 0)

/-- R150, R151, for the five wire payloads of R76 as instructions (notes/assumptions/4.md: their meaning is what DEC does
on a valid frame that carries them): each completes, with these results, and changes nothing else. -/
def Obligations.WirePayloadsSetTheDecoderResults : Prop :=
  ∀ (s : State) (v : Word32) (n : Byte), s.err = 0 →
    exec (.setDuty v) s = .next { s with
      rxst := 1, rxcmd := Config.cfg.cmdSetDuty, rxplen := 5, rxkind := 1, rxnode := 0, rxval := v } ∧
    exec (.setCurrent v) s = .next { s with
      rxst := 1, rxcmd := Config.cfg.cmdSetCurrent, rxplen := 5, rxkind := 2, rxnode := 0, rxval := v } ∧
    exec (.setCurrentBrake v) s = .next { s with
      rxst := 1, rxcmd := Config.cfg.cmdSetCurrentBrake, rxplen := 5, rxkind := 3, rxnode := 0, rxval := v } ∧
    exec .getValues s = .next { s with
      rxst := 1, rxcmd := Config.cfg.cmdGetValues, rxplen := 1, rxkind := 4, rxnode := 0, rxval := 0 } ∧
    exec (.setDutyRouted n v) s = .next { s with
      rxst := 1, rxcmd := Config.cfg.cmdForward, rxplen := 7, rxkind := 5, rxnode := n, rxval := v }

/-- Why notes/assumptions/4.md is the meaning of a wire payload: DEC on a buffer that holds the frame of an encoded
payload instruction does exactly what that instruction does. -/
def Obligations.DecRunsTheReceivedPayload : Prop :=
  ∀ (s : State) (i : Instr) (p : List Byte), encode Config.cfg i = .payload p → s.rxlen.toNat = p.length + 5 →
    s.rxbuf.readRange 0 (p.length + 5) = frame Config.cfg p → exec .dec s = exec i s

/-- R153: a frame built by an encode operation, copied from `TXBUF` to `RXBUF` with `RXLEN` = `TXLEN`, decodes to what
was encoded, for every value and every node id. -/
def Obligations.EncodedFrameRoundTrips : Prop :=
  ∀ (s t u : State) (n : Byte) (rx : Memory),
    ∀ x ∈ [(Instr.esd, (1 : Byte), (0 : Byte), s.val, Config.cfg.cmdSetDuty, (5 : Byte)),
        (Instr.esdr n, 5, n, s.val, Config.cfg.cmdForward, 7),
        (Instr.esc, 2, 0, s.val, Config.cfg.cmdSetCurrent, 5),
        (Instr.escb, 3, 0, s.val, Config.cfg.cmdSetCurrentBrake, 5),
        (Instr.egv, 4, 0, 0, Config.cfg.cmdGetValues, 1)],
      s.err = 0 → s.txbuf.wf → exec x.1 s = .next t →
      rx.readRange 0 t.txlen.toNat = t.txbuf.readRange 0 t.txlen.toNat →
      exec .dec { t with rxbuf := rx, rxlen := t.txlen.setWidth 16 } = .next u →
        u.rxst = 1 ∧ u.rxkind = x.2.1 ∧ u.rxnode = x.2.2.1 ∧ u.rxval = x.2.2.2.1 ∧ u.rxcmd = x.2.2.2.2.1 ∧
        u.rxplen = x.2.2.2.2.2

/-! ## The router -/

/-- R164, R160 to R163: DTH i completes on a running block, for every i. With i ≥ N_THR it takes BADIDX, with the command
word in `ERRINFO`, and changes nothing else. With i = 0 it sends the plain frame of `TH[0]` on the local link, with any
other i the routed frame of `TH[i]` to `NODE[i]` on the bus: the frame stands in `TXBUF`, its length in `TXLEN`, one
record is appended to `OUT`, and nothing else changes. -/
def Obligations.DthSendsOneThruster : Prop :=
  ∀ (s : State) (i : Byte), s.err = 0 → s.txbuf.wf → ∃ t, exec (.dth i) s = .next t ∧ rxSame s t ∧
    if Config.cfg.nThr ≤ i.toNat then t = { s with err := 2, errinfo := i ++ (0x03 : Byte) }
    else ∃ (r : OutRecord) (p : List Byte),
      (match i.toNat with
        | 0 => r.transport = .localLink ∧ r.node = 0 ∧ p = payDuty Config.cfg (s.thrust 0) ∧ t.txlen = 10
        | k + 1 => r.transport = .bus ∧ Config.cfg.bus[k]?.map (·.node) = some r.node ∧
            p = payDutyRouted Config.cfg r.node (s.thrust (k + 1)) ∧ t.txlen = 12) ∧
      r.bytes = frame Config.cfg p ∧ t.out = s.out ++ [r] ∧ t.txbuf.readRange 0 t.txlen.toNat = r.bytes ∧
      txSameFrom t.txlen.toNat s t ∧ t = { s with txbuf := t.txbuf, txlen := t.txlen, out := t.out }

/-- R166: DISP completes on a running block; it appends one record for each thruster, in ascending order, thruster 0 on
the local link and the others on the bus to their node; `TXBUF` and `TXLEN` hold the frame of the last thruster (the
local one, if there is no other), the bytes above it are unchanged, and so is everything else. -/
def Obligations.DispSendsEveryThruster : Prop :=
  ∀ s : State, s.err = 0 → s.txbuf.wf → ∃ t, exec .disp s = .next t ∧
    t.out = s.out ++
      (⟨.localLink, 0, frame Config.cfg (payDuty Config.cfg (s.thrust 0))⟩ ::
        (Config.cfg.bus.zipIdx 1).map fun b =>
          ⟨.bus, b.1.node, frame Config.cfg (payDutyRouted Config.cfg b.1.node (s.thrust b.2))⟩) ∧
    (match Config.cfg.bus.getLast? with
      | none => t.txlen = 10 ∧
          t.txbuf.readRange 0 10 = frame Config.cfg (payDuty Config.cfg (s.thrust 0)) ∧ txSameFrom 10 s t
      | some b => t.txlen = 12 ∧
          t.txbuf.readRange 0 12 =
            frame Config.cfg (payDutyRouted Config.cfg b.node (s.thrust (Config.cfg.nThr - 1))) ∧
          txSameFrom 12 s t) ∧
    rxSame s t ∧ t = { s with txbuf := t.txbuf, txlen := t.txlen, out := t.out }

/-- R166: "DISP has the same effect as the sequence `DTH 0`, `DTH 1`, ..., `DTH N_THR-1`". -/
def Obligations.DispIsTheSequenceOfDth : Prop :=
  ∀ s : State, s.err = 0 →
    exec .disp s = runInstrs ((List.range Config.cfg.nThr).map fun i => .dth (BitVec.ofNat 8 i)) s

/-- R162, R205: the router sends `TH`, never `VAL` and never `SP`: blocks that agree on `TH` and `OUT` still agree on `OUT`
after any DTH and after DISP, whatever else differs. -/
def Obligations.RouterSendsThrusterRegistersOnly : Prop :=
  ∀ (s s' t t' : State), s.err = 0 → s'.err = 0 → s.th = s'.th → s.out = s'.out →
    ∀ i : Instr, (i = .disp ∨ ∃ k, i = .dth k) → exec i s = .next t → exec i s' = .next t' → t.out = t'.out

/-- R167: if `SP` is not written between them, two executions of MIX ; DISP append the same N_THR records. The first
clause says so of any two running blocks with the same `SP`, whatever happened between them; the others say what keeps
`SP`: every sequence of instructions, and every run of steps, of command words, host reads and host writes, in which no
reset and no write of `SP` or of one of its views is pending. -/
def Obligations.HeartbeatRepeatsTheRecords : Prop :=
  (∀ s u : State, s.err = 0 → u.err = 0 → u.sp = s.sp →
    ∃ (t t' : State) (rs : List OutRecord), runInstrs [.mix, .disp] s = .next t ∧ t.out = s.out ++ rs ∧
      runInstrs [.mix, .disp] u = .next t' ∧ t'.out = u.out ++ rs ∧ rs.length = Config.cfg.nThr) ∧
  (∀ (s u : State) (between : List Instr), runInstrs between s = .next u → u.sp = s.sp) ∧
  (∀ (k : Nat) (s u : State), Host.Core.run Sys2Proof.core k s = .next u → HostAction.reset ∉ s.hostStream →
    (∀ v, HostAction.write .sp v ∉ s.hostStream) → (∀ j v, HostAction.write (.spField j) v ∉ s.hostStream) →
    (∀ j v, HostAction.write (.ax j) v ∉ s.hostStream) → u.sp = s.sp)

/-- R201: a TICK issued after reset sends zero duty to every thruster: N_THR frames whose value bytes are 00 00 00 00. -/
def Obligations.TickAfterResetSendsZeroDuty : Prop :=
  ∃ t, Host.Core.run Sys2Proof.core 2 { State.reset with hostStream := tick } = .next t ∧
    t.out.length = Config.cfg.nThr ∧ t.hostStream = [] ∧
    ∀ r ∈ t.out,
      (r.transport = .localLink ∧ r.bytes.length = 10 ∧ (r.bytes.drop 3).take 4 = [0, 0, 0, 0]) ∨
      (r.transport = .bus ∧ r.bytes.length = 12 ∧ (r.bytes.drop 5).take 4 = [0, 0, 0, 0])

/-! ## Faults and who writes what -/

/-- R176, R178: a fault is raised by DTH with `ARG` ≥ N_THR and by CRC with `RXLEN` > 260 and by no other instruction; it
writes `ERR` and `ERRINFO` and nothing else. -/
def Obligations.OnlyDthAndCrcFault : Prop :=
  ∀ (i : Instr) (s t : State), s.err = 0 → exec i s = .next t → t.err ≠ 0 →
    (∃ k : Byte, i = .dth k ∧ Config.cfg.nThr ≤ k.toNat ∧
      t = { s with err := 2, errinfo := k ++ (0x03 : Byte) }) ∨
    (i = .crc ∧ 260 < s.rxlen.toNat ∧ t = { s with err := 3, errinfo := 0x0020 })

/-- R164, R178, in every build: which thruster index faults. -/
def Obligations.BadIndexTakesTheFault : Prop :=
  ∀ (c : Cfg) (s : State) (i : Byte), c.wf →
    (c.nThr ≤ i.toNat → dthOp c i s = { s with err := 2, errinfo := i ++ (0x03 : Byte) }) ∧
    (i.toNat < c.nThr → (dthOp c i s).err = s.err ∧ (dthOp c i s).errinfo = s.errinfo ∧
      (dthOp c i s).out.length = s.out.length + 1)

/-- R36, "written by operations": `SP`, `VAL`, `RXBUF` and `RXLEN` are written by no instruction; `TH` by MIX alone;
`TXBUF` and `TXLEN` by ESD, ESDR, ESC, ESCB, EGV, DTH and DISP; the decoder results by DEC (and the wire payloads, which
are DEC's cases); `CRCR` by CRC; `OUT` by DTH and DISP; `ERR` and `ERRINFO` by fault entry, which only DTH and CRC can
take. -/
def Obligations.EachRegisterHasItsWriters : Prop :=
  ∀ (i : Instr) (s t : State), exec i s = .next t →
    (t.sp = s.sp ∧ t.val = s.val ∧ t.rxbuf = s.rxbuf ∧ t.rxlen = s.rxlen ∧ t.hostStream = s.hostStream) ∧
    (i ≠ .mix → t.th = s.th) ∧
    (i ∉ [Instr.esd, .esc, .escb, .egv, .disp] → (∀ n, i ≠ .esdr n) → (∀ k, i ≠ .dth k) →
      t.txbuf = s.txbuf ∧ t.txlen = s.txlen) ∧
    (i ∈ [Instr.mix, .disp, .esd, .esc, .escb, .egv, .crc] ∨ (∃ n, i = .esdr n) ∨ (∃ k, i = .dth k) →
      t.rxst = s.rxst ∧ t.rxcmd = s.rxcmd ∧ t.rxplen = s.rxplen ∧ t.rxkind = s.rxkind ∧ t.rxnode = s.rxnode ∧
      t.rxval = s.rxval) ∧
    (i ≠ .crc → t.crcr = s.crcr) ∧
    (i ≠ .disp → (∀ k, i ≠ .dth k) → t.out = s.out) ∧
    (i ≠ .crc → (∀ k, i ≠ .dth k) → t.err = s.err ∧ t.errinfo = s.errinfo)

/-! ## The host's side -/

/-- R22, R23, R55: a host write of `AX[k]` sets field k of `SP` and leaves the other fields, and so the other 56 bits,
unchanged; a write of `SP` replaces all 64 bits; nothing else changes. -/
def Obligations.SetpointWritesReachTheirFields : Prop :=
  ∀ (s : State) (v : Word64) (rest : List HostAction),
    (∀ k : Fin 6, s.hostStream = .write (.ax k) v :: rest →
      ∃ t, step s = .next t ∧ axes t.sp k = (v.extractLsb' 0 8).toInt ∧
        (∀ j : Fin 8, j.val ≠ k.val → spField t.sp j = spField s.sp j) ∧
        t = { s with sp := t.sp, hostStream := rest }) ∧
    (s.hostStream = .write .sp v :: rest → step s = .next { s with sp := v, hostStream := rest })

/-- R36: "A host write to a register without "w" is ignored: no state changes and no fault is raised". -/
def Obligations.ReadOnlyRegistersIgnoreWrites : Prop :=
  ∀ (s : State) (r : HostReg) (v : Word64) (rest : List HostAction),
    ((∃ i, r = .th i ∧ i < Config.cfg.nThr) ∨ (∃ o, r = .txbuf o ∧ o < 21) ∨
      r ∈ [HostReg.txlen, .rxst, .rxcmd, .rxplen, .rxkind, .rxnode, .rxval, .crcr, .err, .errinfo]) →
    s.hostStream = .write r v :: rest → step s = .next { s with hostStream := rest }

/-- R36, R57: a host read delivers the current value of every readable register, register view and buffer byte; a
register or buffer byte that the host may write reads back the low bits of the written value that its width has; and no
read delivers more bits than the register's width. Three points are the model's reading: what a read delivers is
`hostRead` of the state in which it takes effect (notes/assumptions/16.md), the host can access each byte field of `SP`,
LIGHT and MANIP included, as R55 calls them views (notes/assumptions/7.md), and a written value is cut to the register's
width (notes/assumptions/8.md). -/
def Obligations.HostReadsBackWhatItWrote : Prop :=
  (∀ (s : State) (r : HostReg) (v : Word64), s.rxbuf.wf →
    (r ∈ [HostReg.sp, .val, .rxlen] ∨ (∃ j, r = .spField j) ∨ (∃ k, r = .ax k) ∨ (∃ o, r = .rxbuf o ∧ o < 260)) →
      ((s.hostWrite r v).hostRead r).toNat = v.toNat % 2 ^ regWidth r) ∧
  (∀ (s : State) (r : HostReg), (s.hostRead r).toNat < 2 ^ regWidth r) ∧
  (∀ s : State, s.hostRead .sp = s.sp ∧ (s.hostRead .val).toNat = s.val.toNat ∧
    (s.hostRead .txlen).toNat = s.txlen.toNat ∧ (s.hostRead .rxlen).toNat = s.rxlen.toNat ∧
    (s.hostRead .rxst).toNat = s.rxst.toNat ∧ (s.hostRead .rxcmd).toNat = s.rxcmd.toNat ∧
    (s.hostRead .rxplen).toNat = s.rxplen.toNat ∧ (s.hostRead .rxkind).toNat = s.rxkind.toNat ∧
    (s.hostRead .rxnode).toNat = s.rxnode.toNat ∧ (s.hostRead .rxval).toNat = s.rxval.toNat ∧
    (s.hostRead .crcr).toNat = s.crcr.toNat ∧ (s.hostRead .err).toNat = s.err.toNat ∧
    (s.hostRead .errinfo).toNat = s.errinfo.toNat) ∧
  (∀ (s : State) (j : Fin 8), (s.hostRead (.spField j)).toNat = s.sp.toNat / 2 ^ (8 * j.val) % 256) ∧
  (∀ (s : State) (k : Fin 6), (s.hostRead (.ax k)).toNat = s.sp.toNat / 2 ^ (8 * k.val) % 256) ∧
  (∀ (s : State) (o : Nat), (s.hostRead (.txbuf o)).toNat = (s.txbuf.read o).toNat ∧
    (s.hostRead (.rxbuf o)).toNat = (s.rxbuf.read o).toNat) ∧
  (∀ (s : State) (i : Nat) (x : Word32), s.th[i]? = some x → (s.hostRead (.th i)).toNat = x.toNat)

/-- R28, R58, R81: `WR RXBUF, b0 b1 …` stores the listed bytes from offset 0 and changes no other byte and no register. -/
def Obligations.HostFillsTheReceiveBuffer : Prop :=
  ∀ (s : State) (bs : List Byte) (rest : List HostAction), s.rxbuf.wf → bs.length ≤ 260 →
    s.hostStream = writeRxbuf 0 bs ++ rest →
      ∃ t, Host.Core.run Sys2Proof.core bs.length s = .next t ∧ t.rxbuf.readRange 0 bs.length = bs ∧
        (∀ o, bs.length ≤ o → t.rxbuf.read o = s.rxbuf.read o) ∧ txSameFrom 0 s t ∧
        t = { s with rxbuf := t.rxbuf, hostStream := rest }

/-- The model's choice (notes/assumptions/6.md; no rule of the spec gives such an access a meaning): a host read or write
of a byte of `RXBUF` beyond offset 259, of a byte of `TXBUF` beyond offset 20, or of `TH[i]` with i ≥ N_THR, stops the
machine; and a write at offset 259 of `RXBUF` stores. -/
def Obligations.MissingLocationsFault : Prop :=
  ∀ (s : State) (o : Nat) (v : Word64) (rest : List HostAction),
    (s.hostStream = .write (.rxbuf o) v :: rest → 260 ≤ o → step s = .fault (.noSuchLocation (.rxbuf o))) ∧
    (s.hostStream = .read (.rxbuf o) :: rest → 260 ≤ o → step s = .fault (.noSuchLocation (.rxbuf o))) ∧
    (s.hostStream = .write (.txbuf o) v :: rest → 21 ≤ o → step s = .fault (.noSuchLocation (.txbuf o))) ∧
    (s.hostStream = .read (.txbuf o) :: rest → 21 ≤ o → step s = .fault (.noSuchLocation (.txbuf o))) ∧
    (s.hostStream = .write (.th o) v :: rest → Config.cfg.nThr ≤ o → step s = .fault (.noSuchLocation (.th o))) ∧
    (s.hostStream = .read (.th o) :: rest → Config.cfg.nThr ≤ o → step s = .fault (.noSuchLocation (.th o))) ∧
    (s.hostStream = .write (.rxbuf o) v :: rest → o ≤ 259 → s.rxbuf.wf →
      ∃ t, step s = .next t ∧ t.rxbuf.read o = v.extractLsb' 0 8 ∧
        (∀ x, x ≠ o → t.rxbuf.read x = s.rxbuf.read x) ∧ t = { s with rxbuf := t.rxbuf, hostStream := rest })

/-- R53, R54: the byte export of `SP` is its eight fields, lowest first; the import is the sum of b[j] * 2^(8j); export
and import undo each other. -/
def Obligations.SetpointBytesRoundTrip : Prop :=
  (∀ v : Word64, (toBytes v).length = 8 ∧ ∀ j : Fin 8, (toBytes v)[j.val]? = some (v.extractLsb' (8 * j.val) 8)) ∧
  (∀ b : List Byte, b.length = 8 →
    (fromBytes b).toNat = ((List.range 8).map fun j => (b.getD j 0).toNat * 2 ^ (8 * j)).sum) ∧
  (∀ v : Word64, fromBytes (toBytes v) = v) ∧
  (∀ b : List Byte, b.length = 8 → toBytes (fromBytes b) = b)

/-- The model's own interface (notes/assumptions/5.md): an opcode-table word that decodes to an instruction, placed by
`withFetchWord` on a running block, is what the next step runs: a command word as it stands, a wire payload as the frame
in `RXBUF` that DEC then decodes. -/
def Obligations.PlacedTableWordRunsNext : Prop :=
  ∀ (s : State) (w : Nat) (i : Instr), s.err = 0 →
    (decodeTableWord 16 w = some i → step (s.withFetchWord 16 w) = exec i s) ∧
    (∀ nbits ∈ [8, 40, 56], s.rxbuf.wf → decodeTableWord nbits w = some i →
      step (s.withFetchWord nbits w) = exec i { s with
        rxbuf := s.rxbuf.writeRange 0 (frame Config.cfg (bytesOfNat (nbits / 8) w))
        rxlen := BitVec.ofNat 16 (nbits / 8 + 5) })

/-- R26, R28, R36, with the low bits of notes/assumptions/8.md: on any block, running or faulted, a host write of `VAL`
stores 32 bits and a host write of `RXLEN` 16 bits, every value being storable, and nothing else changes. -/
def Obligations.ValueAndLengthWritesStoreTheirValue : Prop :=
  ∀ (s : State) (v : Word64) (rest : List HostAction),
    (s.hostStream = .write .val v :: rest →
      ∃ t, step s = .next t ∧ t.val.toNat = v.toNat % 2 ^ 32 ∧ t = { s with val := t.val, hostStream := rest }) ∧
    (s.hostStream = .write .rxlen v :: rest →
      ∃ t, step s = .next t ∧ t.rxlen.toNat = v.toNat % 2 ^ 16 ∧ t = { s with rxlen := t.rxlen, hostStream := rest })
end

