-- ==== Sys2Proof/Laws/State.lean ====
section
/-! SUPPORT. What each update of the state leaves in each field: one lemma per field per update, true by rfl. -/

namespace Sys2Proof.Machine

/-! ## setTh -/

@[simp] theorem State.setTh_sp (s : State) (ts : List Word32) : (s.setTh ts).sp = s.sp := rfl
@[simp] theorem State.setTh_th (s : State) (ts : List Word32) : (s.setTh ts).th = ts := rfl
@[simp] theorem State.setTh_val (s : State) (ts : List Word32) : (s.setTh ts).val = s.val := rfl
@[simp] theorem State.setTh_txbuf (s : State) (ts : List Word32) : (s.setTh ts).txbuf = s.txbuf := rfl
@[simp] theorem State.setTh_txlen (s : State) (ts : List Word32) : (s.setTh ts).txlen = s.txlen := rfl
@[simp] theorem State.setTh_rxbuf (s : State) (ts : List Word32) : (s.setTh ts).rxbuf = s.rxbuf := rfl
@[simp] theorem State.setTh_rxlen (s : State) (ts : List Word32) : (s.setTh ts).rxlen = s.rxlen := rfl
@[simp] theorem State.setTh_rxst (s : State) (ts : List Word32) : (s.setTh ts).rxst = s.rxst := rfl
@[simp] theorem State.setTh_rxcmd (s : State) (ts : List Word32) : (s.setTh ts).rxcmd = s.rxcmd := rfl
@[simp] theorem State.setTh_rxplen (s : State) (ts : List Word32) : (s.setTh ts).rxplen = s.rxplen := rfl
@[simp] theorem State.setTh_rxkind (s : State) (ts : List Word32) : (s.setTh ts).rxkind = s.rxkind := rfl
@[simp] theorem State.setTh_rxnode (s : State) (ts : List Word32) : (s.setTh ts).rxnode = s.rxnode := rfl
@[simp] theorem State.setTh_rxval (s : State) (ts : List Word32) : (s.setTh ts).rxval = s.rxval := rfl
@[simp] theorem State.setTh_crcr (s : State) (ts : List Word32) : (s.setTh ts).crcr = s.crcr := rfl
@[simp] theorem State.setTh_out (s : State) (ts : List Word32) : (s.setTh ts).out = s.out := rfl
@[simp] theorem State.setTh_err (s : State) (ts : List Word32) : (s.setTh ts).err = s.err := rfl
@[simp] theorem State.setTh_errinfo (s : State) (ts : List Word32) : (s.setTh ts).errinfo = s.errinfo := rfl
@[simp] theorem State.setTh_hostStream (s : State) (ts : List Word32) : (s.setTh ts).hostStream = s.hostStream := rfl

/-! ## setCrcr -/

@[simp] theorem State.setCrcr_sp (s : State) (x : Word16) : (s.setCrcr x).sp = s.sp := rfl
@[simp] theorem State.setCrcr_th (s : State) (x : Word16) : (s.setCrcr x).th = s.th := rfl
@[simp] theorem State.setCrcr_val (s : State) (x : Word16) : (s.setCrcr x).val = s.val := rfl
@[simp] theorem State.setCrcr_txbuf (s : State) (x : Word16) : (s.setCrcr x).txbuf = s.txbuf := rfl
@[simp] theorem State.setCrcr_txlen (s : State) (x : Word16) : (s.setCrcr x).txlen = s.txlen := rfl
@[simp] theorem State.setCrcr_rxbuf (s : State) (x : Word16) : (s.setCrcr x).rxbuf = s.rxbuf := rfl
@[simp] theorem State.setCrcr_rxlen (s : State) (x : Word16) : (s.setCrcr x).rxlen = s.rxlen := rfl
@[simp] theorem State.setCrcr_rxst (s : State) (x : Word16) : (s.setCrcr x).rxst = s.rxst := rfl
@[simp] theorem State.setCrcr_rxcmd (s : State) (x : Word16) : (s.setCrcr x).rxcmd = s.rxcmd := rfl
@[simp] theorem State.setCrcr_rxplen (s : State) (x : Word16) : (s.setCrcr x).rxplen = s.rxplen := rfl
@[simp] theorem State.setCrcr_rxkind (s : State) (x : Word16) : (s.setCrcr x).rxkind = s.rxkind := rfl
@[simp] theorem State.setCrcr_rxnode (s : State) (x : Word16) : (s.setCrcr x).rxnode = s.rxnode := rfl
@[simp] theorem State.setCrcr_rxval (s : State) (x : Word16) : (s.setCrcr x).rxval = s.rxval := rfl
@[simp] theorem State.setCrcr_crcr (s : State) (x : Word16) : (s.setCrcr x).crcr = x := rfl
@[simp] theorem State.setCrcr_out (s : State) (x : Word16) : (s.setCrcr x).out = s.out := rfl
@[simp] theorem State.setCrcr_err (s : State) (x : Word16) : (s.setCrcr x).err = s.err := rfl
@[simp] theorem State.setCrcr_errinfo (s : State) (x : Word16) : (s.setCrcr x).errinfo = s.errinfo := rfl
@[simp] theorem State.setCrcr_hostStream (s : State) (x : Word16) : (s.setCrcr x).hostStream = s.hostStream := rfl

/-! ## storeFrame -/

@[simp] theorem State.storeFrame_sp (s : State) (f : List Byte) : (s.storeFrame f).sp = s.sp := rfl
@[simp] theorem State.storeFrame_th (s : State) (f : List Byte) : (s.storeFrame f).th = s.th := rfl
@[simp] theorem State.storeFrame_val (s : State) (f : List Byte) : (s.storeFrame f).val = s.val := rfl
@[simp] theorem State.storeFrame_txbuf (s : State) (f : List Byte) : (s.storeFrame f).txbuf = s.txbuf.writeRange 0 f := rfl
@[simp] theorem State.storeFrame_txlen (s : State) (f : List Byte) : (s.storeFrame f).txlen = BitVec.ofNat 8 f.length := rfl
@[simp] theorem State.storeFrame_rxbuf (s : State) (f : List Byte) : (s.storeFrame f).rxbuf = s.rxbuf := rfl
@[simp] theorem State.storeFrame_rxlen (s : State) (f : List Byte) : (s.storeFrame f).rxlen = s.rxlen := rfl
@[simp] theorem State.storeFrame_rxst (s : State) (f : List Byte) : (s.storeFrame f).rxst = s.rxst := rfl
@[simp] theorem State.storeFrame_rxcmd (s : State) (f : List Byte) : (s.storeFrame f).rxcmd = s.rxcmd := rfl
@[simp] theorem State.storeFrame_rxplen (s : State) (f : List Byte) : (s.storeFrame f).rxplen = s.rxplen := rfl
@[simp] theorem State.storeFrame_rxkind (s : State) (f : List Byte) : (s.storeFrame f).rxkind = s.rxkind := rfl
@[simp] theorem State.storeFrame_rxnode (s : State) (f : List Byte) : (s.storeFrame f).rxnode = s.rxnode := rfl
@[simp] theorem State.storeFrame_rxval (s : State) (f : List Byte) : (s.storeFrame f).rxval = s.rxval := rfl
@[simp] theorem State.storeFrame_crcr (s : State) (f : List Byte) : (s.storeFrame f).crcr = s.crcr := rfl
@[simp] theorem State.storeFrame_out (s : State) (f : List Byte) : (s.storeFrame f).out = s.out := rfl
@[simp] theorem State.storeFrame_err (s : State) (f : List Byte) : (s.storeFrame f).err = s.err := rfl
@[simp] theorem State.storeFrame_errinfo (s : State) (f : List Byte) : (s.storeFrame f).errinfo = s.errinfo := rfl
@[simp] theorem State.storeFrame_hostStream (s : State) (f : List Byte) : (s.storeFrame f).hostStream = s.hostStream := rfl

/-! ## emit -/

@[simp] theorem State.emit_sp (s : State) (r : OutRecord) : (s.emit r).sp = s.sp := rfl
@[simp] theorem State.emit_th (s : State) (r : OutRecord) : (s.emit r).th = s.th := rfl
@[simp] theorem State.emit_val (s : State) (r : OutRecord) : (s.emit r).val = s.val := rfl
@[simp] theorem State.emit_txbuf (s : State) (r : OutRecord) : (s.emit r).txbuf = s.txbuf := rfl
@[simp] theorem State.emit_txlen (s : State) (r : OutRecord) : (s.emit r).txlen = s.txlen := rfl
@[simp] theorem State.emit_rxbuf (s : State) (r : OutRecord) : (s.emit r).rxbuf = s.rxbuf := rfl
@[simp] theorem State.emit_rxlen (s : State) (r : OutRecord) : (s.emit r).rxlen = s.rxlen := rfl
@[simp] theorem State.emit_rxst (s : State) (r : OutRecord) : (s.emit r).rxst = s.rxst := rfl
@[simp] theorem State.emit_rxcmd (s : State) (r : OutRecord) : (s.emit r).rxcmd = s.rxcmd := rfl
@[simp] theorem State.emit_rxplen (s : State) (r : OutRecord) : (s.emit r).rxplen = s.rxplen := rfl
@[simp] theorem State.emit_rxkind (s : State) (r : OutRecord) : (s.emit r).rxkind = s.rxkind := rfl
@[simp] theorem State.emit_rxnode (s : State) (r : OutRecord) : (s.emit r).rxnode = s.rxnode := rfl
@[simp] theorem State.emit_rxval (s : State) (r : OutRecord) : (s.emit r).rxval = s.rxval := rfl
@[simp] theorem State.emit_crcr (s : State) (r : OutRecord) : (s.emit r).crcr = s.crcr := rfl
@[simp] theorem State.emit_out (s : State) (r : OutRecord) : (s.emit r).out = s.out ++ [r] := rfl
@[simp] theorem State.emit_err (s : State) (r : OutRecord) : (s.emit r).err = s.err := rfl
@[simp] theorem State.emit_errinfo (s : State) (r : OutRecord) : (s.emit r).errinfo = s.errinfo := rfl
@[simp] theorem State.emit_hostStream (s : State) (r : OutRecord) : (s.emit r).hostStream = s.hostStream := rfl

/-! ## setDecoded -/

@[simp] theorem State.setDecoded_sp (s : State) (st : FrameStatus) (cmd plen : Byte) (kd : PayloadKind) (node : Byte) (v : Word32) : (s.setDecoded st cmd plen kd node v).sp = s.sp := rfl
@[simp] theorem State.setDecoded_th (s : State) (st : FrameStatus) (cmd plen : Byte) (kd : PayloadKind) (node : Byte) (v : Word32) : (s.setDecoded st cmd plen kd node v).th = s.th := rfl
@[simp] theorem State.setDecoded_val (s : State) (st : FrameStatus) (cmd plen : Byte) (kd : PayloadKind) (node : Byte) (v : Word32) : (s.setDecoded st cmd plen kd node v).val = s.val := rfl
@[simp] theorem State.setDecoded_txbuf (s : State) (st : FrameStatus) (cmd plen : Byte) (kd : PayloadKind) (node : Byte) (v : Word32) : (s.setDecoded st cmd plen kd node v).txbuf = s.txbuf := rfl
@[simp] theorem State.setDecoded_txlen (s : State) (st : FrameStatus) (cmd plen : Byte) (kd : PayloadKind) (node : Byte) (v : Word32) : (s.setDecoded st cmd plen kd node v).txlen = s.txlen := rfl
@[simp] theorem State.setDecoded_rxbuf (s : State) (st : FrameStatus) (cmd plen : Byte) (kd : PayloadKind) (node : Byte) (v : Word32) : (s.setDecoded st cmd plen kd node v).rxbuf = s.rxbuf := rfl
@[simp] theorem State.setDecoded_rxlen (s : State) (st : FrameStatus) (cmd plen : Byte) (kd : PayloadKind) (node : Byte) (v : Word32) : (s.setDecoded st cmd plen kd node v).rxlen = s.rxlen := rfl
@[simp] theorem State.setDecoded_rxst (s : State) (st : FrameStatus) (cmd plen : Byte) (kd : PayloadKind) (node : Byte) (v : Word32) : (s.setDecoded st cmd plen kd node v).rxst = st.code := rfl
@[simp] theorem State.setDecoded_rxcmd (s : State) (st : FrameStatus) (cmd plen : Byte) (kd : PayloadKind) (node : Byte) (v : Word32) : (s.setDecoded st cmd plen kd node v).rxcmd = cmd := rfl
@[simp] theorem State.setDecoded_rxplen (s : State) (st : FrameStatus) (cmd plen : Byte) (kd : PayloadKind) (node : Byte) (v : Word32) : (s.setDecoded st cmd plen kd node v).rxplen = plen := rfl
@[simp] theorem State.setDecoded_rxkind (s : State) (st : FrameStatus) (cmd plen : Byte) (kd : PayloadKind) (node : Byte) (v : Word32) : (s.setDecoded st cmd plen kd node v).rxkind = kd.code := rfl
@[simp] theorem State.setDecoded_rxnode (s : State) (st : FrameStatus) (cmd plen : Byte) (kd : PayloadKind) (node : Byte) (v : Word32) : (s.setDecoded st cmd plen kd node v).rxnode = node := rfl
@[simp] theorem State.setDecoded_rxval (s : State) (st : FrameStatus) (cmd plen : Byte) (kd : PayloadKind) (node : Byte) (v : Word32) : (s.setDecoded st cmd plen kd node v).rxval = v := rfl
@[simp] theorem State.setDecoded_crcr (s : State) (st : FrameStatus) (cmd plen : Byte) (kd : PayloadKind) (node : Byte) (v : Word32) : (s.setDecoded st cmd plen kd node v).crcr = s.crcr := rfl
@[simp] theorem State.setDecoded_out (s : State) (st : FrameStatus) (cmd plen : Byte) (kd : PayloadKind) (node : Byte) (v : Word32) : (s.setDecoded st cmd plen kd node v).out = s.out := rfl
@[simp] theorem State.setDecoded_err (s : State) (st : FrameStatus) (cmd plen : Byte) (kd : PayloadKind) (node : Byte) (v : Word32) : (s.setDecoded st cmd plen kd node v).err = s.err := rfl
@[simp] theorem State.setDecoded_errinfo (s : State) (st : FrameStatus) (cmd plen : Byte) (kd : PayloadKind) (node : Byte) (v : Word32) : (s.setDecoded st cmd plen kd node v).errinfo = s.errinfo := rfl
@[simp] theorem State.setDecoded_hostStream (s : State) (st : FrameStatus) (cmd plen : Byte) (kd : PayloadKind) (node : Byte) (v : Word32) : (s.setDecoded st cmd plen kd node v).hostStream = s.hostStream := rfl

/-! ## setSp -/

@[simp] theorem State.setSp_sp (s : State) (v : Word64) : (s.setSp v).sp = v := rfl
@[simp] theorem State.setSp_th (s : State) (v : Word64) : (s.setSp v).th = s.th := rfl
@[simp] theorem State.setSp_val (s : State) (v : Word64) : (s.setSp v).val = s.val := rfl
@[simp] theorem State.setSp_txbuf (s : State) (v : Word64) : (s.setSp v).txbuf = s.txbuf := rfl
@[simp] theorem State.setSp_txlen (s : State) (v : Word64) : (s.setSp v).txlen = s.txlen := rfl
@[simp] theorem State.setSp_rxbuf (s : State) (v : Word64) : (s.setSp v).rxbuf = s.rxbuf := rfl
@[simp] theorem State.setSp_rxlen (s : State) (v : Word64) : (s.setSp v).rxlen = s.rxlen := rfl
@[simp] theorem State.setSp_rxst (s : State) (v : Word64) : (s.setSp v).rxst = s.rxst := rfl
@[simp] theorem State.setSp_rxcmd (s : State) (v : Word64) : (s.setSp v).rxcmd = s.rxcmd := rfl
@[simp] theorem State.setSp_rxplen (s : State) (v : Word64) : (s.setSp v).rxplen = s.rxplen := rfl
@[simp] theorem State.setSp_rxkind (s : State) (v : Word64) : (s.setSp v).rxkind = s.rxkind := rfl
@[simp] theorem State.setSp_rxnode (s : State) (v : Word64) : (s.setSp v).rxnode = s.rxnode := rfl
@[simp] theorem State.setSp_rxval (s : State) (v : Word64) : (s.setSp v).rxval = s.rxval := rfl
@[simp] theorem State.setSp_crcr (s : State) (v : Word64) : (s.setSp v).crcr = s.crcr := rfl
@[simp] theorem State.setSp_out (s : State) (v : Word64) : (s.setSp v).out = s.out := rfl
@[simp] theorem State.setSp_err (s : State) (v : Word64) : (s.setSp v).err = s.err := rfl
@[simp] theorem State.setSp_errinfo (s : State) (v : Word64) : (s.setSp v).errinfo = s.errinfo := rfl
@[simp] theorem State.setSp_hostStream (s : State) (v : Word64) : (s.setSp v).hostStream = s.hostStream := rfl

/-! ## setVal -/

@[simp] theorem State.setVal_sp (s : State) (v : Word32) : (s.setVal v).sp = s.sp := rfl
@[simp] theorem State.setVal_th (s : State) (v : Word32) : (s.setVal v).th = s.th := rfl
@[simp] theorem State.setVal_val (s : State) (v : Word32) : (s.setVal v).val = v := rfl
@[simp] theorem State.setVal_txbuf (s : State) (v : Word32) : (s.setVal v).txbuf = s.txbuf := rfl
@[simp] theorem State.setVal_txlen (s : State) (v : Word32) : (s.setVal v).txlen = s.txlen := rfl
@[simp] theorem State.setVal_rxbuf (s : State) (v : Word32) : (s.setVal v).rxbuf = s.rxbuf := rfl
@[simp] theorem State.setVal_rxlen (s : State) (v : Word32) : (s.setVal v).rxlen = s.rxlen := rfl
@[simp] theorem State.setVal_rxst (s : State) (v : Word32) : (s.setVal v).rxst = s.rxst := rfl
@[simp] theorem State.setVal_rxcmd (s : State) (v : Word32) : (s.setVal v).rxcmd = s.rxcmd := rfl
@[simp] theorem State.setVal_rxplen (s : State) (v : Word32) : (s.setVal v).rxplen = s.rxplen := rfl
@[simp] theorem State.setVal_rxkind (s : State) (v : Word32) : (s.setVal v).rxkind = s.rxkind := rfl
@[simp] theorem State.setVal_rxnode (s : State) (v : Word32) : (s.setVal v).rxnode = s.rxnode := rfl
@[simp] theorem State.setVal_rxval (s : State) (v : Word32) : (s.setVal v).rxval = s.rxval := rfl
@[simp] theorem State.setVal_crcr (s : State) (v : Word32) : (s.setVal v).crcr = s.crcr := rfl
@[simp] theorem State.setVal_out (s : State) (v : Word32) : (s.setVal v).out = s.out := rfl
@[simp] theorem State.setVal_err (s : State) (v : Word32) : (s.setVal v).err = s.err := rfl
@[simp] theorem State.setVal_errinfo (s : State) (v : Word32) : (s.setVal v).errinfo = s.errinfo := rfl
@[simp] theorem State.setVal_hostStream (s : State) (v : Word32) : (s.setVal v).hostStream = s.hostStream := rfl

/-! ## setRxByte -/

@[simp] theorem State.setRxByte_sp (s : State) (o : Nat) (b : Byte) : (s.setRxByte o b).sp = s.sp := rfl
@[simp] theorem State.setRxByte_th (s : State) (o : Nat) (b : Byte) : (s.setRxByte o b).th = s.th := rfl
@[simp] theorem State.setRxByte_val (s : State) (o : Nat) (b : Byte) : (s.setRxByte o b).val = s.val := rfl
@[simp] theorem State.setRxByte_txbuf (s : State) (o : Nat) (b : Byte) : (s.setRxByte o b).txbuf = s.txbuf := rfl
@[simp] theorem State.setRxByte_txlen (s : State) (o : Nat) (b : Byte) : (s.setRxByte o b).txlen = s.txlen := rfl
@[simp] theorem State.setRxByte_rxbuf (s : State) (o : Nat) (b : Byte) : (s.setRxByte o b).rxbuf = s.rxbuf.write o b := rfl
@[simp] theorem State.setRxByte_rxlen (s : State) (o : Nat) (b : Byte) : (s.setRxByte o b).rxlen = s.rxlen := rfl
@[simp] theorem State.setRxByte_rxst (s : State) (o : Nat) (b : Byte) : (s.setRxByte o b).rxst = s.rxst := rfl
@[simp] theorem State.setRxByte_rxcmd (s : State) (o : Nat) (b : Byte) : (s.setRxByte o b).rxcmd = s.rxcmd := rfl
@[simp] theorem State.setRxByte_rxplen (s : State) (o : Nat) (b : Byte) : (s.setRxByte o b).rxplen = s.rxplen := rfl
@[simp] theorem State.setRxByte_rxkind (s : State) (o : Nat) (b : Byte) : (s.setRxByte o b).rxkind = s.rxkind := rfl
@[simp] theorem State.setRxByte_rxnode (s : State) (o : Nat) (b : Byte) : (s.setRxByte o b).rxnode = s.rxnode := rfl
@[simp] theorem State.setRxByte_rxval (s : State) (o : Nat) (b : Byte) : (s.setRxByte o b).rxval = s.rxval := rfl
@[simp] theorem State.setRxByte_crcr (s : State) (o : Nat) (b : Byte) : (s.setRxByte o b).crcr = s.crcr := rfl
@[simp] theorem State.setRxByte_out (s : State) (o : Nat) (b : Byte) : (s.setRxByte o b).out = s.out := rfl
@[simp] theorem State.setRxByte_err (s : State) (o : Nat) (b : Byte) : (s.setRxByte o b).err = s.err := rfl
@[simp] theorem State.setRxByte_errinfo (s : State) (o : Nat) (b : Byte) : (s.setRxByte o b).errinfo = s.errinfo := rfl
@[simp] theorem State.setRxByte_hostStream (s : State) (o : Nat) (b : Byte) : (s.setRxByte o b).hostStream = s.hostStream := rfl

/-! ## setRxlen -/

@[simp] theorem State.setRxlen_sp (s : State) (n : Word16) : (s.setRxlen n).sp = s.sp := rfl
@[simp] theorem State.setRxlen_th (s : State) (n : Word16) : (s.setRxlen n).th = s.th := rfl
@[simp] theorem State.setRxlen_val (s : State) (n : Word16) : (s.setRxlen n).val = s.val := rfl
@[simp] theorem State.setRxlen_txbuf (s : State) (n : Word16) : (s.setRxlen n).txbuf = s.txbuf := rfl
@[simp] theorem State.setRxlen_txlen (s : State) (n : Word16) : (s.setRxlen n).txlen = s.txlen := rfl
@[simp] theorem State.setRxlen_rxbuf (s : State) (n : Word16) : (s.setRxlen n).rxbuf = s.rxbuf := rfl
@[simp] theorem State.setRxlen_rxlen (s : State) (n : Word16) : (s.setRxlen n).rxlen = n := rfl
@[simp] theorem State.setRxlen_rxst (s : State) (n : Word16) : (s.setRxlen n).rxst = s.rxst := rfl
@[simp] theorem State.setRxlen_rxcmd (s : State) (n : Word16) : (s.setRxlen n).rxcmd = s.rxcmd := rfl
@[simp] theorem State.setRxlen_rxplen (s : State) (n : Word16) : (s.setRxlen n).rxplen = s.rxplen := rfl
@[simp] theorem State.setRxlen_rxkind (s : State) (n : Word16) : (s.setRxlen n).rxkind = s.rxkind := rfl
@[simp] theorem State.setRxlen_rxnode (s : State) (n : Word16) : (s.setRxlen n).rxnode = s.rxnode := rfl
@[simp] theorem State.setRxlen_rxval (s : State) (n : Word16) : (s.setRxlen n).rxval = s.rxval := rfl
@[simp] theorem State.setRxlen_crcr (s : State) (n : Word16) : (s.setRxlen n).crcr = s.crcr := rfl
@[simp] theorem State.setRxlen_out (s : State) (n : Word16) : (s.setRxlen n).out = s.out := rfl
@[simp] theorem State.setRxlen_err (s : State) (n : Word16) : (s.setRxlen n).err = s.err := rfl
@[simp] theorem State.setRxlen_errinfo (s : State) (n : Word16) : (s.setRxlen n).errinfo = s.errinfo := rfl
@[simp] theorem State.setRxlen_hostStream (s : State) (n : Word16) : (s.setRxlen n).hostStream = s.hostStream := rfl

/-! ## setStream -/

@[simp] theorem State.setStream_sp (s : State) (l : List HostAction) : (s.setStream l).sp = s.sp := rfl
@[simp] theorem State.setStream_th (s : State) (l : List HostAction) : (s.setStream l).th = s.th := rfl
@[simp] theorem State.setStream_val (s : State) (l : List HostAction) : (s.setStream l).val = s.val := rfl
@[simp] theorem State.setStream_txbuf (s : State) (l : List HostAction) : (s.setStream l).txbuf = s.txbuf := rfl
@[simp] theorem State.setStream_txlen (s : State) (l : List HostAction) : (s.setStream l).txlen = s.txlen := rfl
@[simp] theorem State.setStream_rxbuf (s : State) (l : List HostAction) : (s.setStream l).rxbuf = s.rxbuf := rfl
@[simp] theorem State.setStream_rxlen (s : State) (l : List HostAction) : (s.setStream l).rxlen = s.rxlen := rfl
@[simp] theorem State.setStream_rxst (s : State) (l : List HostAction) : (s.setStream l).rxst = s.rxst := rfl
@[simp] theorem State.setStream_rxcmd (s : State) (l : List HostAction) : (s.setStream l).rxcmd = s.rxcmd := rfl
@[simp] theorem State.setStream_rxplen (s : State) (l : List HostAction) : (s.setStream l).rxplen = s.rxplen := rfl
@[simp] theorem State.setStream_rxkind (s : State) (l : List HostAction) : (s.setStream l).rxkind = s.rxkind := rfl
@[simp] theorem State.setStream_rxnode (s : State) (l : List HostAction) : (s.setStream l).rxnode = s.rxnode := rfl
@[simp] theorem State.setStream_rxval (s : State) (l : List HostAction) : (s.setStream l).rxval = s.rxval := rfl
@[simp] theorem State.setStream_crcr (s : State) (l : List HostAction) : (s.setStream l).crcr = s.crcr := rfl
@[simp] theorem State.setStream_out (s : State) (l : List HostAction) : (s.setStream l).out = s.out := rfl
@[simp] theorem State.setStream_err (s : State) (l : List HostAction) : (s.setStream l).err = s.err := rfl
@[simp] theorem State.setStream_errinfo (s : State) (l : List HostAction) : (s.setStream l).errinfo = s.errinfo := rfl
@[simp] theorem State.setStream_hostStream (s : State) (l : List HostAction) : (s.setStream l).hostStream = l := rfl

/-! ## takeFault -/

@[simp] theorem State.takeFault_sp (s : State) (f : FaultCode) (w : Word16) : (s.takeFault f w).sp = s.sp := rfl
@[simp] theorem State.takeFault_th (s : State) (f : FaultCode) (w : Word16) : (s.takeFault f w).th = s.th := rfl
@[simp] theorem State.takeFault_val (s : State) (f : FaultCode) (w : Word16) : (s.takeFault f w).val = s.val := rfl
@[simp] theorem State.takeFault_txbuf (s : State) (f : FaultCode) (w : Word16) : (s.takeFault f w).txbuf = s.txbuf := rfl
@[simp] theorem State.takeFault_txlen (s : State) (f : FaultCode) (w : Word16) : (s.takeFault f w).txlen = s.txlen := rfl
@[simp] theorem State.takeFault_rxbuf (s : State) (f : FaultCode) (w : Word16) : (s.takeFault f w).rxbuf = s.rxbuf := rfl
@[simp] theorem State.takeFault_rxlen (s : State) (f : FaultCode) (w : Word16) : (s.takeFault f w).rxlen = s.rxlen := rfl
@[simp] theorem State.takeFault_rxst (s : State) (f : FaultCode) (w : Word16) : (s.takeFault f w).rxst = s.rxst := rfl
@[simp] theorem State.takeFault_rxcmd (s : State) (f : FaultCode) (w : Word16) : (s.takeFault f w).rxcmd = s.rxcmd := rfl
@[simp] theorem State.takeFault_rxplen (s : State) (f : FaultCode) (w : Word16) : (s.takeFault f w).rxplen = s.rxplen := rfl
@[simp] theorem State.takeFault_rxkind (s : State) (f : FaultCode) (w : Word16) : (s.takeFault f w).rxkind = s.rxkind := rfl
@[simp] theorem State.takeFault_rxnode (s : State) (f : FaultCode) (w : Word16) : (s.takeFault f w).rxnode = s.rxnode := rfl
@[simp] theorem State.takeFault_rxval (s : State) (f : FaultCode) (w : Word16) : (s.takeFault f w).rxval = s.rxval := rfl
@[simp] theorem State.takeFault_crcr (s : State) (f : FaultCode) (w : Word16) : (s.takeFault f w).crcr = s.crcr := rfl
@[simp] theorem State.takeFault_out (s : State) (f : FaultCode) (w : Word16) : (s.takeFault f w).out = s.out := rfl
@[simp] theorem State.takeFault_err (s : State) (f : FaultCode) (w : Word16) : (s.takeFault f w).err = f.code := rfl
@[simp] theorem State.takeFault_errinfo (s : State) (f : FaultCode) (w : Word16) : (s.takeFault f w).errinfo = w := rfl
@[simp] theorem State.takeFault_hostStream (s : State) (f : FaultCode) (w : Word16) : (s.takeFault f w).hostStream = s.hostStream := rfl

/-! ## reset -/

@[simp] theorem State.resetOf_sp (c : Cfg) : (State.resetOf c).sp = 0 := rfl
@[simp] theorem State.resetOf_th (c : Cfg) : (State.resetOf c).th = List.replicate c.nThr 0 := rfl
@[simp] theorem State.resetOf_val (c : Cfg) : (State.resetOf c).val = 0 := rfl
@[simp] theorem State.resetOf_txbuf (c : Cfg) : (State.resetOf c).txbuf = [] := rfl
@[simp] theorem State.resetOf_txlen (c : Cfg) : (State.resetOf c).txlen = 0 := rfl
@[simp] theorem State.resetOf_rxbuf (c : Cfg) : (State.resetOf c).rxbuf = [] := rfl
@[simp] theorem State.resetOf_rxlen (c : Cfg) : (State.resetOf c).rxlen = 0 := rfl
@[simp] theorem State.resetOf_rxst (c : Cfg) : (State.resetOf c).rxst = 0 := rfl
@[simp] theorem State.resetOf_rxcmd (c : Cfg) : (State.resetOf c).rxcmd = 0 := rfl
@[simp] theorem State.resetOf_rxplen (c : Cfg) : (State.resetOf c).rxplen = 0 := rfl
@[simp] theorem State.resetOf_rxkind (c : Cfg) : (State.resetOf c).rxkind = 0 := rfl
@[simp] theorem State.resetOf_rxnode (c : Cfg) : (State.resetOf c).rxnode = 0 := rfl
@[simp] theorem State.resetOf_rxval (c : Cfg) : (State.resetOf c).rxval = 0 := rfl
@[simp] theorem State.resetOf_crcr (c : Cfg) : (State.resetOf c).crcr = 0 := rfl
@[simp] theorem State.resetOf_out (c : Cfg) : (State.resetOf c).out = [] := rfl
@[simp] theorem State.resetOf_err (c : Cfg) : (State.resetOf c).err = 0 := rfl
@[simp] theorem State.resetOf_errinfo (c : Cfg) : (State.resetOf c).errinfo = 0 := rfl
@[simp] theorem State.resetOf_hostStream (c : Cfg) : (State.resetOf c).hostStream = [] := rfl

@[simp] theorem State.resetBlock_sp (c : Cfg) (s : State) : (s.resetBlock c).sp = 0 := rfl
@[simp] theorem State.resetBlock_th (c : Cfg) (s : State) : (s.resetBlock c).th = List.replicate c.nThr 0 := rfl
@[simp] theorem State.resetBlock_val (c : Cfg) (s : State) : (s.resetBlock c).val = 0 := rfl
@[simp] theorem State.resetBlock_txbuf (c : Cfg) (s : State) : (s.resetBlock c).txbuf = [] := rfl
@[simp] theorem State.resetBlock_txlen (c : Cfg) (s : State) : (s.resetBlock c).txlen = 0 := rfl
@[simp] theorem State.resetBlock_rxbuf (c : Cfg) (s : State) : (s.resetBlock c).rxbuf = [] := rfl
@[simp] theorem State.resetBlock_rxlen (c : Cfg) (s : State) : (s.resetBlock c).rxlen = 0 := rfl
@[simp] theorem State.resetBlock_rxst (c : Cfg) (s : State) : (s.resetBlock c).rxst = 0 := rfl
@[simp] theorem State.resetBlock_rxcmd (c : Cfg) (s : State) : (s.resetBlock c).rxcmd = 0 := rfl
@[simp] theorem State.resetBlock_rxplen (c : Cfg) (s : State) : (s.resetBlock c).rxplen = 0 := rfl
@[simp] theorem State.resetBlock_rxkind (c : Cfg) (s : State) : (s.resetBlock c).rxkind = 0 := rfl
@[simp] theorem State.resetBlock_rxnode (c : Cfg) (s : State) : (s.resetBlock c).rxnode = 0 := rfl
@[simp] theorem State.resetBlock_rxval (c : Cfg) (s : State) : (s.resetBlock c).rxval = 0 := rfl
@[simp] theorem State.resetBlock_crcr (c : Cfg) (s : State) : (s.resetBlock c).crcr = 0 := rfl
@[simp] theorem State.resetBlock_out (c : Cfg) (s : State) : (s.resetBlock c).out = [] := rfl
@[simp] theorem State.resetBlock_err (c : Cfg) (s : State) : (s.resetBlock c).err = 0 := rfl
@[simp] theorem State.resetBlock_errinfo (c : Cfg) (s : State) : (s.resetBlock c).errinfo = 0 := rfl
@[simp] theorem State.resetBlock_hostStream (c : Cfg) (s : State) : (s.resetBlock c).hostStream = s.hostStream := rfl

end Sys2Proof.Machine
end

