-- ==== Sys2Proof/Laws/Arithmetic.lean ====
section
/-! SUPPORT. The arithmetic primitives and the mixer: what `trunc0`, `clamp` and `tc32` are in the library's terms, and
the shape of `mix`. -/

namespace Sys2Proof.Machine

/-- `trunc0` is the division that rounds toward zero. -/
theorem trunc0_eq_tdiv (p q : Int) : trunc0 p q = Int.tdiv p q := by
  rw [trunc0]
  split_ifs with hp
  · rw [Int.tdiv_eq_ediv_of_nonneg hp]
  · have h := Int.tdiv_eq_ediv_of_nonneg (a := -p) (b := q) (by omega)
    rw [← h, Int.neg_tdiv, Int.neg_neg]

/-- `clamp` is the larger of the lower bound and the smaller of value and upper bound. -/
theorem clamp_eq_max_min {v lo hi : Int} (h : lo ≤ hi) : clamp v lo hi = max lo (min v hi) := by
  rw [clamp]
  split_ifs <;> omega

/-- `clamp` stays inside its bounds. -/
theorem clamp_mem {v lo hi : Int} (h : lo ≤ hi) : lo ≤ clamp v lo hi ∧ clamp v lo hi ≤ hi := by
  rw [clamp]
  split_ifs <;> omega

/-- A value inside its bounds is not changed. -/
theorem clamp_of_mem {v lo hi : Int} (h1 : lo ≤ v) (h2 : v ≤ hi) : clamp v lo hi = v := by
  rw [clamp]
  split_ifs <;> omega

/-- The 32-bit pattern of an integer in range denotes it. -/
theorem toInt_tc32 {x : Int} (h1 : -2147483648 ≤ x) (h2 : x < 2147483648) : (tc32 x).toInt = x := by
  rw [tc32, BitVec.toInt_ofInt]
  exact Int.bmod_eq_of_le (by omega) (by omega)

/-- The divisor of the mixer is positive in every legal build. -/
theorem mixDen_pos {c : Cfg} (h : c.wf) : 0 < mixDen c := by
  have h2 : (0 : Int) < 2 ^ c.coefFrac := by positivity
  obtain ⟨-, -, -, hd, -⟩ := h
  rw [mixDen]
  rcases hd with hd | hd <;> rw [hd] <;> omega

@[simp] theorem length_lanes (c : Cfg) : c.lanes.length = c.nThr := by simp [Cfg.lanes, Cfg.nThr]

@[simp] theorem length_mix (c : Cfg) (a : Fin 6 → Int) : (mix c a).length = c.nThr := by simp [mix]

/-- One element of `mix`: the lane of that thruster. -/
theorem getElem?_mix (c : Cfg) (a : Fin 6 → Int) (i : Nat) : (mix c a)[i]? = c.lanes[i]?.map (mixLane c a) := by
  simp [mix]

/-- The mask of one byte, bit by bit. -/
theorem getLsbD_byteMask (i : Nat) : (0xFF : Word64).getLsbD i = decide (i < 8) := by
  by_cases h : i < 64
  · have all : ∀ i : Fin 64, (0xFF : Word64).getLsbD i.val = decide (i.val < 8) := by decide
    exact all ⟨i, h⟩
  · rw [BitVec.getLsbD_of_ge _ _ (by omega), decide_eq_false (by omega)]

/-- A write of one byte field of `SP` reaches that field and no other (R22). -/
theorem spField_setSpField (sp : Word64) (k j : Fin 8) (b : Byte) :
    spField (setSpField sp k b) j = if j = k then b else spField sp j := by
  refine BitVec.eq_of_getLsbD_eq fun i hi => ?_
  have hj := j.isLt
  have hk := k.isLt
  have inside : 8 * j.val + i < 64 := by omega
  simp only [spField, setSpField, BitVec.getLsbD_extractLsb', hi, decide_true, Bool.true_and, BitVec.getLsbD_or,
    BitVec.getLsbD_and, BitVec.getLsbD_not, BitVec.getLsbD_shiftLeft, inside, BitVec.getLsbD_setWidth]
  rw [getLsbD_byteMask]
  by_cases hjk : j = k
  · subst hjk
    simp [hi]
    omega
  · have hne : j.val ≠ k.val := fun h => hjk (Fin.ext h)
    by_cases hlt : 8 * j.val + i < 8 * k.val
    · simp [hlt, hjk, inside, hi]
    · have beyond : 8 ≤ 8 * j.val + i - 8 * k.val := by omega
      rw [BitVec.getLsbD_of_ge b _ beyond, decide_eq_false (by omega : ¬ 8 * j.val + i - 8 * k.val < 8)]
      simp [hjk, inside, hi]

end Sys2Proof.Machine
end

