-- ==== Sys2Proof/Laws/Memory.lean ====
section
/-! SUPPORT. The laws of a byte-addressable space: a read after a write, and that every write keeps the canonical
form and the bounds of the space. -/

namespace Sys2Proof.Machine

@[simp] theorem Memory.read_nil (a : Nat) : Memory.read [] a = 0 := rfl

theorem Memory.read_cons (k : Nat) (b : Byte) (m : Memory) (a : Nat) :
    Memory.read ((k, b) :: m) a = if k = a then b else Memory.read m a := rfl

theorem Memory.wf_nil : Memory.wf [] := ⟨List.Pairwise.nil, fun _ h => nomatch h⟩

theorem Memory.wf_cons {k : Nat} {b : Byte} {m : Memory} :
    Memory.wf ((k, b) :: m) ↔ (∀ x ∈ m, k < x.1) ∧ b ≠ 0 ∧ Memory.wf m := by
  simp only [Memory.wf, List.pairwise_cons, List.mem_cons, forall_eq_or_imp]
  tauto

/-- A byte below every listed address reads as 0. -/
theorem Memory.read_of_lt {m : Memory} {a : Nat} (h : ∀ x ∈ m, a < x.1) : m.read a = 0 := by
  induction m with
  | nil => rfl
  | cons x m ih =>
    have hx := h x (by simp)
    rw [show x :: m = (x.1, x.2) :: m from rfl, Memory.read_cons, if_neg (by omega)]
    exact ih fun y hy => h y (by simp [hy])

/-- A read after a write: the byte written, and every other byte as before. -/
theorem Memory.read_write {m : Memory} (h : m.wf) (a : Nat) (v : Byte) (x : Nat) :
    (m.write a v).read x = if a = x then v else m.read x := by
  induction m with
  | nil =>
    by_cases hv : v = 0
    · subst hv
      simp [Memory.write]
    · rw [Memory.write, if_neg hv, Memory.read_cons]
  | cons cell m ih =>
    obtain ⟨k, b⟩ := cell
    obtain ⟨hk, -, hm⟩ := Memory.wf_cons.mp h
    rcases Nat.lt_trichotomy a k with h1 | rfl | h1
    · have h0 : Memory.read ((k, b) :: m) a = 0 := by
        refine Memory.read_of_lt fun y hy => ?_
        rcases List.mem_cons.mp hy with rfl | hy
        · exact h1
        · exact h1.trans (hk y hy)
      by_cases hv : v = 0
      · rw [Memory.write, if_pos h1, if_pos hv]
        split_ifs with hx
        · rw [← hx, h0, hv]
        · rfl
      · rw [Memory.write, if_pos h1, if_neg hv, Memory.read_cons]
    · by_cases hv : v = 0
      · rw [Memory.write, if_neg (by omega), if_pos rfl, if_pos hv, Memory.read_cons]
        split_ifs with hx
        · rw [← hx, hv]
          exact Memory.read_of_lt hk
        · rfl
      · rw [Memory.write, if_neg (by omega), if_pos rfl, if_neg hv, Memory.read_cons, Memory.read_cons]
        split_ifs <;> rfl
    · rw [Memory.write, if_neg (by omega), if_neg (by omega), Memory.read_cons, Memory.read_cons, ih hm]
      split_ifs <;> first | rfl | omega

theorem Memory.mem_write {m : Memory} {a : Nat} {v : Byte} {x : Host.Cell} (hx : x ∈ m.write a v) :
    x ∈ m ∨ (x = (a, v) ∧ v ≠ 0) := by
  induction m with
  | nil =>
    rw [Memory.write] at hx
    split_ifs at hx with hv
    · exact .inl hx
    · exact .inr ⟨List.mem_singleton.mp hx, hv⟩
  | cons cell m ih =>
    obtain ⟨k, b⟩ := cell
    simp only [Memory.write] at hx
    split_ifs at hx with h1 h2 h3 h4
    · exact .inl hx
    · rcases List.mem_cons.mp hx with rfl | hx
      · exact .inr ⟨rfl, h2⟩
      · exact .inl hx
    · exact .inl (List.mem_cons_of_mem _ hx)
    · rcases List.mem_cons.mp hx with rfl | hx
      · exact .inr ⟨rfl, h4⟩
      · exact .inl (List.mem_cons_of_mem _ hx)
    · rcases List.mem_cons.mp hx with rfl | hx
      · exact .inl (by simp)
      · rcases ih hx with h | h
        · exact .inl (List.mem_cons_of_mem _ h)
        · exact .inr h

/-- A write keeps the canonical form. -/
theorem Memory.wf_write {m : Memory} (h : m.wf) (a : Nat) (v : Byte) : (m.write a v).wf := by
  induction m with
  | nil =>
    simp only [Memory.write]
    split_ifs with hv
    · exact Memory.wf_nil
    · exact Memory.wf_cons.mpr ⟨fun _ h => (nomatch h), hv, Memory.wf_nil⟩
  | cons cell m ih =>
    obtain ⟨k, b⟩ := cell
    obtain ⟨hk, hb, hm⟩ := Memory.wf_cons.mp h
    simp only [Memory.write]
    split_ifs with h1 h2 h3 h4
    · exact h
    · refine Memory.wf_cons.mpr ⟨fun y hy => ?_, h2, h⟩
      rcases List.mem_cons.mp hy with rfl | hy
      · exact h1
      · exact h1.trans (hk y hy)
    · exact hm
    · subst h3
      exact Memory.wf_cons.mpr ⟨hk, h4, hm⟩
    · refine Memory.wf_cons.mpr ⟨fun y hy => ?_, hb, ih hm⟩
      rcases Memory.mem_write hy with hy | ⟨hy, -⟩
      · exact hk y hy
      · rw [hy]
        omega

/-- A write inside the space keeps it inside. -/
theorem Memory.within_write {m : Memory} {size : Nat} (h : m.within size) {a : Nat} (ha : a < size) (v : Byte) :
    (m.write a v).within size := by
  intro x hx
  rcases Memory.mem_write hx with hx | ⟨hx, -⟩
  · exact h x hx
  · rw [hx]
    exact ha

/-! ## Runs of bytes -/

theorem Memory.wf_writeRange {m : Memory} (h : m.wf) (o : Nat) (bs : List Byte) : (m.writeRange o bs).wf := by
  induction bs generalizing m o with
  | nil => exact h
  | cons b bs ih => exact ih (Memory.wf_write h o b) (o + 1)

theorem Memory.within_writeRange {m : Memory} {size : Nat} (h : m.within size) {o : Nat} {bs : List Byte}
    (hb : o + bs.length ≤ size) : (m.writeRange o bs).within size := by
  induction bs generalizing m o with
  | nil => exact h
  | cons b bs ih =>
    rw [List.length_cons] at hb
    exact ih (Memory.within_write h (by omega) b) (by omega)

/-- A read after a run of writes: the bytes of the run inside it, every other byte as before. -/
theorem Memory.read_writeRange {m : Memory} (h : m.wf) (o : Nat) (bs : List Byte) (x : Nat) :
    (m.writeRange o bs).read x = if o ≤ x ∧ x < o + bs.length then bs.getD (x - o) 0 else m.read x := by
  induction bs generalizing m o with
  | nil =>
    rw [if_neg (by simp)]
    rfl
  | cons b bs ih =>
    rw [Memory.writeRange, ih (Memory.wf_write h o b), Memory.read_write h, List.length_cons]
    rcases Nat.lt_trichotomy x o with hx | rfl | hx
    · rw [if_neg (by omega), if_neg (by omega), if_neg (by omega)]
    · rw [if_neg (by omega), if_pos rfl, if_pos (by omega)]
      simp
    · by_cases hb : x < o + (bs.length + 1)
      · rw [if_pos (by omega), if_pos (by omega), show x - o = (x - (o + 1)) + 1 by omega, List.getD_cons_succ]
      · rw [if_neg (by omega), if_neg (by omega), if_neg (by omega)]

/-- Bytes outside a run of writes read as before. -/
theorem Memory.read_writeRange_outside {m : Memory} (h : m.wf) {o x : Nat} {bs : List Byte}
    (hx : x < o ∨ o + bs.length ≤ x) : (m.writeRange o bs).read x = m.read x := by
  rw [Memory.read_writeRange h, if_neg (by omega)]

@[simp] theorem Memory.length_readRange (m : Memory) (o n : Nat) : (m.readRange o n).length = n := by
  simp [Memory.readRange]

theorem Memory.getElem_readRange {m : Memory} {o n j : Nat} (hj : j < (m.readRange o n).length) :
    (m.readRange o n)[j] = m.read (o + j) := by
  simp [Memory.readRange]

/-- A run that was just written reads back. -/
theorem Memory.readRange_writeRange {m : Memory} (h : m.wf) (o : Nat) (bs : List Byte) :
    (m.writeRange o bs).readRange o bs.length = bs := by
  refine List.ext_getElem (by simp) fun j h1 h2 => ?_
  rw [Memory.getElem_readRange, Memory.read_writeRange h, if_pos (by omega), Nat.add_sub_cancel_left]
  simp [h2]

end Sys2Proof.Machine
end

