-- ==== Sys2Proof/Laws/Codec.lean ====
section
/-! SUPPORT. The codec: byte order, the lengths of payloads and frames, and that a bit step of either checksum loses
nothing. -/

namespace Sys2Proof.Machine

/-- `unbe32` undoes `be32`. -/
theorem unbe32_be32 (v : Word32) :
    unbe32 (v.extractLsb' 24 8) (v.extractLsb' 16 8) (v.extractLsb' 8 8) (v.extractLsb' 0 8) = v := by
  refine BitVec.eq_of_getLsbD_eq fun i hi => ?_
  simp only [unbe32, BitVec.getLsbD_append, BitVec.getLsbD_extractLsb']
  grind

/-- `be32` undoes `unbe32`. -/
theorem be32_unbe32 (b0 b1 b2 b3 : Byte) : be32 (unbe32 b0 b1 b2 b3) = [b0, b1, b2, b3] := by
  simp only [be32, unbe32, List.cons.injEq, and_true]
  refine ⟨?_, ?_, ?_, ?_⟩ <;>
    (refine BitVec.eq_of_getLsbD_eq fun i hi => ?_
     simp only [BitVec.getLsbD_extractLsb', BitVec.getLsbD_append]
     grind)

@[simp] theorem length_be32 (v : Word32) : (be32 v).length = 4 := rfl

@[simp] theorem length_payDuty (c : Cfg) (v : Word32) : (payDuty c v).length = 5 := rfl

@[simp] theorem length_payDutyRouted (c : Cfg) (n : Byte) (v : Word32) : (payDutyRouted c n v).length = 7 := rfl

@[simp] theorem length_payCurrent (c : Cfg) (v : Word32) : (payCurrent c v).length = 5 := rfl

@[simp] theorem length_payBrake (c : Cfg) (v : Word32) : (payBrake c v).length = 5 := rfl

@[simp] theorem length_payGetValues (c : Cfg) : (payGetValues c).length = 1 := rfl

/-- A frame is five bytes longer than its payload. -/
@[simp] theorem length_frame (c : Cfg) (p : List Byte) : (frame c p).length = p.length + 5 := by
  simp [frame]

/-- A checksum is its two bytes, high byte first. -/
theorem highByte_append_lowByte (x : Word16) : highByte x ++ lowByte x = x := by
  refine BitVec.eq_of_getLsbD_eq fun i hi => ?_
  simp only [highByte, lowByte, BitVec.getLsbD_append, BitVec.getLsbD_extractLsb']
  grind

/-- One bit step of R111 loses nothing: the bit shifted out at the top comes back in bit 0 through 0x1021. -/
theorem ccittBit_injective : Function.Injective ccittBit := by
  intro x y h
  have bit0 : ∀ z : Word16, (ccittBit z).getLsbD 0 = z.msb := by
    intro z
    rw [ccittBit]
    split <;> simp_all
  have top : x.msb = y.msb := by rw [← bit0, ← bit0, h]
  have rest : x <<< 1 = y <<< 1 := by
    rw [ccittBit, ccittBit, top] at h
    split at h
    · simpa using h
    · exact h
  refine BitVec.eq_of_getLsbD_eq fun i hi => ?_
  by_cases h15 : i = 15
  · subst h15
    simpa [BitVec.msb_eq_getLsbD_last] using top
  · have := congrArg (fun z => z.getLsbD (i + 1)) rest
    simp only [BitVec.getLsbD_shiftLeft] at this
    rw [decide_eq_true (by omega)] at this
    simpa using this

/-- One bit step of R112 loses nothing: the bit shifted out at the bottom comes back in bit 15 through 0xA001. -/
theorem a001Bit_injective : Function.Injective a001Bit := by
  intro x y h
  have bit15 : ∀ z : Word16, (a001Bit z).getLsbD 15 = z.getLsbD 0 := by
    intro z
    rw [a001Bit]
    split <;> simp_all
  have low : x.getLsbD 0 = y.getLsbD 0 := by rw [← bit15, ← bit15, h]
  have rest : x >>> 1 = y >>> 1 := by
    rw [a001Bit, a001Bit, low] at h
    split at h
    · simpa using h
    · exact h
  refine BitVec.eq_of_getLsbD_eq fun i hi => ?_
  by_cases h0 : i = 0
  · subst h0
    exact low
  · have := congrArg (fun z => z.getLsbD (i - 1)) rest
    simp only [BitVec.getLsbD_ushiftRight] at this
    rwa [show 1 + (i - 1) = i by omega] at this

/-- One bit step of R111 in numbers. -/
theorem toNat_ccittBit (x : Word16) :
    (ccittBit x).toNat =
      if 0x8000 ≤ x.toNat then (2 * x.toNat % 0x10000) ^^^ 0x1021 else 2 * x.toNat % 0x10000 := by
  rw [ccittBit, BitVec.msb_eq_decide]
  simp only [decide_eq_true_eq]
  split <;> simp [BitVec.toNat_shiftLeft, Nat.shiftLeft_eq, Nat.mul_comm]

/-- One bit step of R112 in numbers. -/
theorem toNat_a001Bit (x : Word16) :
    (a001Bit x).toNat = if x.toNat % 2 = 1 then (x.toNat / 2) ^^^ 0xA001 else x.toNat / 2 := by
  have low : x.getLsbD 0 = decide (x.toNat % 2 = 1) := by simp [BitVec.getLsbD, Nat.testBit_zero]
  rw [a001Bit, low]
  simp only [decide_eq_true_eq]
  split <;> simp [Nat.shiftRight_eq_div_pow]

/-- The write-back of R118: the frame stands in `TXBUF` from offset 0 on, and no byte above it changes. (`TXLEN` and the
rest are in Sys2Proof/Laws/State.lean.) -/
theorem storeFrame_spec {s : State} (hw : s.txbuf.wf) (f : List Byte) :
    (s.storeFrame f).txbuf.readRange 0 f.length = f ∧
      ∀ o, f.length ≤ o → (s.storeFrame f).txbuf.read o = s.txbuf.read o :=
  ⟨Memory.readRange_writeRange hw 0 f, fun _ ho => Memory.read_writeRange_outside hw (.inr (by omega))⟩

/-- When `FrameCheck` answers OK: none of the six defects of R142 to R146, and the payload is the middle of the
buffer. -/
theorem frameCheck_eq_good {c : Cfg} {n : Nat} {m : Memory} {p : List Byte} :
    frameCheck c n m = .good p ↔
      6 ≤ n ∧ m.read 0 = c.startByte ∧ (m.read 1).toNat ≠ 0 ∧ n = (m.read 1).toNat + 5 ∧
      m.read ((m.read 1).toNat + 4) = c.stopByte ∧ p = m.readRange 2 (m.read 1).toNat ∧
      crc16 c p = m.read ((m.read 1).toNat + 2) ++ m.read ((m.read 1).toNat + 3) := by
  rw [frameCheck]
  grind

end Sys2Proof.Machine
end

