-- ==== Sys2Proof/Laws/Control.lean ====
section
/-! SUPPORT. What `exec` and `step` can do, said once: every instruction answers a next state, the one its operation
gives on a running block, and s itself on a halted one. -/

namespace Sys2Proof.Machine

theorem whenRunning_of_running {f : State → State} {s : State} (h : s.err = 0) : whenRunning f s = f s := by
  simp [whenRunning, State.halted, h]

theorem whenRunning_of_halted {f : State → State} {s : State} (h : s.err ≠ 0) : whenRunning f s = s := by
  simp only [whenRunning, State.halted, bne_iff_ne, ne_eq, h, not_false_eq_true, if_true]

/-- The operation of each instruction on a running block. -/
def operationOf (c : Cfg) : Instr → State → State
  | .mix => mixOp c
  | .disp => dispOp c
  | .dth i => dthOp c i
  | .esd => esdOp c
  | .esdr n => esdrOp c n
  | .esc => escOp c
  | .escb => escbOp c
  | .egv => egvOp c
  | .crc => crcOp c
  | .dec => decOp c
  | .setDuty v => acceptPayload c (payDuty c v)
  | .setDutyRouted n v => acceptPayload c (payDutyRouted c n v)
  | .setCurrent v => acceptPayload c (payCurrent c v)
  | .setCurrentBrake v => acceptPayload c (payBrake c v)
  | .getValues => acceptPayload c (payGetValues c)

/-- Every instruction is its operation behind the halt check, and answers a next state. -/
theorem exec_eq (i : Instr) (s : State) : exec i s = .next (whenRunning (operationOf Config.cfg i) s) := by
  cases i <;> rfl

/-- An instruction on a running block. -/
theorem exec_of_running (i : Instr) {s : State} (h : s.err = 0) :
    exec i s = .next (operationOf Config.cfg i s) := by
  rw [exec_eq, whenRunning_of_running h]

/-- The step of a block with a pending host action. -/
theorem step_of_stream {s : State} {a : HostAction} {rest : List HostAction} (h : s.hostStream = a :: rest) :
    step s = performAction a (s.setStream rest) := by
  rw [step, stepBlock, h]

/-- The step of an idle block. -/
theorem step_of_idle {s : State} (h : s.hostStream = []) : step s = .next s := by
  rw [step, stepBlock, h]

/-- A command word on a running block: the decoded instruction, or ILLOP. -/
theorem issueCommand_of_running (w : Word16) {s : State} (h : s.err = 0) :
    issueCommand w s =
      match decodeCommand w with
      | .ok i => exec i s
      | .error _ => .next (s.takeFault .illop w) := by
  have hh : s.halted = false := by simp [State.halted, h]
  rw [issueCommand, hh]
  rfl

/-- A command word on a halted block is discarded. -/
theorem issueCommand_of_halted (w : Word16) {s : State} (h : s.err ≠ 0) : issueCommand w s = .next s := by
  simp only [issueCommand, State.halted, bne_iff_ne, ne_eq, h, not_false_eq_true, if_true]

/-- A host write changes one of four registers, or nothing. -/
theorem hostWrite_cases (s : State) (r : HostReg) (v : Word64) :
    (∃ x, s.hostWrite r v = s.setSp x) ∨ (∃ x, s.hostWrite r v = s.setVal x) ∨
      (∃ o x, r = .rxbuf o ∧ s.hostWrite r v = s.setRxByte o x) ∨ (∃ x, s.hostWrite r v = s.setRxlen x) ∨
      s.hostWrite r v = s := by
  cases r <;> simp [State.hostWrite]

/-- What a host action can do. -/
theorem performAction_cases {a : HostAction} {s t : State} (h : performAction a s = .next t) :
    (∃ w, a = .command w ∧ issueCommand w s = .next t) ∨
      (∃ r v, a = .write r v ∧ r.present Config.cfg = true ∧ t = s.hostWrite r v) ∨
      (∃ r, a = .read r ∧ r.present Config.cfg = true ∧ t = s) ∨
      (a = .reset ∧ t = s.resetBlock Config.cfg) := by
  cases a with
  | command w => exact .inl ⟨w, rfl, h⟩
  | write r v =>
    simp only [performAction] at h
    split at h
    · exact .inr (.inl ⟨r, v, rfl, ‹_›, by simpa using h.symm⟩)
    · cases h
  | read r =>
    simp only [performAction] at h
    split at h
    · exact .inr (.inr (.inl ⟨r, rfl, ‹_›, by simpa using h.symm⟩))
    · cases h
  | reset => exact .inr (.inr (.inr ⟨rfl, by simpa [performAction] using h.symm⟩))

/-! ## Runs of steps -/

/-- A run of k + 1 steps of any machine is one step and a run of k steps. -/
theorem run_succ_of (M : Host.Core) (k : Nat) (s t : M.State) :
    M.run (k + 1) s = .next t ↔ ∃ u, M.step s = .next u ∧ M.run k u = .next t := by
  rw [Host.Core.run]
  cases M.step s <;> simp

/-- No step leaves the state as it is. -/
theorem run_zero {s t : State} : Host.Core.run Sys2Proof.core 0 s = .next t ↔ s = t :=
  ⟨fun h => by injection h, fun h => h ▸ rfl⟩

/-- A run of k + 1 steps is one step and a run of k steps. -/
theorem run_succ {k : Nat} {s t : State} :
    Host.Core.run Sys2Proof.core (k + 1) s = .next t ↔
      ∃ u : State, step s = .next u ∧ Host.Core.run Sys2Proof.core k u = .next t :=
  run_succ_of Sys2Proof.core k s t

/-- Instructions one after another, the first of them answering a next state. -/
theorem runInstrs_cons (i : Instr) (is : List Instr) (s : State) :
    runInstrs (i :: is) s = runInstrs is (whenRunning (operationOf Config.cfg i) s) := by
  rw [runInstrs, exec_eq]

end Sys2Proof.Machine
end

