-- ==== Sys2Proof/Laws/PerInstr.lean ====
section
/-! SUPPORT. Statements made for every instruction, one lemma for each constructor of Instr. -/

namespace Sys2Proof.Laws

/-- The number of bits that spec/opcode_table.json gives the row of an instruction. -/
def tableBits : Instr → Nat
  | .mix | .disp | .dth _ | .esd | .esdr _ | .esc | .escb | .egv | .crc | .dec => 16
  | .setDuty _ | .setCurrent _ | .setCurrentBrake _ => 40
  | .setDutyRouted _ _ => 56
  | .getValues => 8

/-- The encoder gives an instruction as many bits as its row of the table has. -/
def EncodedSize.Statement (i : Instr) : Prop := ∀ c : Cfg, (encode c i).bits = tableBits i

theorem EncodedSize.mix : EncodedSize.Statement .mix := fun _ => rfl
theorem EncodedSize.disp : EncodedSize.Statement .disp := fun _ => rfl
theorem EncodedSize.dth (i : Byte) : EncodedSize.Statement (.dth i) := fun _ => rfl
theorem EncodedSize.esd : EncodedSize.Statement .esd := fun _ => rfl
theorem EncodedSize.esdr (n : Byte) : EncodedSize.Statement (.esdr n) := fun _ => rfl
theorem EncodedSize.esc : EncodedSize.Statement .esc := fun _ => rfl
theorem EncodedSize.escb : EncodedSize.Statement .escb := fun _ => rfl
theorem EncodedSize.egv : EncodedSize.Statement .egv := fun _ => rfl
theorem EncodedSize.crc : EncodedSize.Statement .crc := fun _ => rfl
theorem EncodedSize.dec : EncodedSize.Statement .dec := fun _ => rfl
theorem EncodedSize.setDuty (v : Word32) : EncodedSize.Statement (.setDuty v) := fun _ => rfl
theorem EncodedSize.setDutyRouted (n : Byte) (v : Word32) : EncodedSize.Statement (.setDutyRouted n v) := fun _ => rfl
theorem EncodedSize.setCurrent (v : Word32) : EncodedSize.Statement (.setCurrent v) := fun _ => rfl
theorem EncodedSize.setCurrentBrake (v : Word32) : EncodedSize.Statement (.setCurrentBrake v) := fun _ => rfl
theorem EncodedSize.getValues : EncodedSize.Statement .getValues := fun _ => rfl

end Sys2Proof.Laws
end

