-- ==== Sys2Proof/Laws/Router.lean ====
section
/-! SUPPORT. What the router's operations can do, said once. -/

namespace Sys2Proof.Machine

/-- `Route(i)` reads `TH` and nothing else of the state (R162). -/
theorem route_congr (c : Cfg) {s s' : State} (h : s.th = s'.th) (i : Nat) : route c s i = route c s' i := by
  cases i <;> simp [route, State.thrust, h]

/-- Dispatch steps one after another: the records are appended in order, and nothing but `TXBUF`, `TXLEN` and `OUT`
changes. -/
theorem foldl_sendThruster (c : Cfg) (is : List Nat) (s : State) :
    is.foldl (sendThruster c) s =
      { s with
        txbuf := (is.foldl (sendThruster c) s).txbuf
        txlen := (is.foldl (sendThruster c) s).txlen
        out := s.out ++ is.map (route c s) } := by
  induction is generalizing s with
  | nil => simp
  | cons i is ih =>
    have same : is.map (route c (sendThruster c s i)) = is.map (route c s) :=
      List.map_congr_left fun j _ => route_congr c rfl j
    rw [List.foldl_cons, ih, same]
    simp [sendThruster, State.storeFrame, State.emit]

end Sys2Proof.Machine
end

