-- ==== Sys2Proof/Tests/Slice0.lean ====
section
/-! SUPPORT. Tests. The expected values are the vectors of spec/95_test_vectors.md (V1 to V96), computed there from the
rules, for its configurations TESTCFG-A and TESTCFG-B with the reference bytes of spec/00_scope.md rule R12. The
machine's own configuration is opaque, so the operations are run with these configurations given to them. -/

namespace Sys2Proof.Tests

open Sys2Proof.Machine

/-! ## The test configurations -/

/-- TESTCFG-A with REFCFG. -/
def cfgA : Cfg where
  thruster0 := ⟨#v[1, 0, 0, 0, 0, 0], .plus⟩
  bus := [⟨⟨#v[1, 1, 0, 0, 0, 1], .minus⟩, 11⟩, ⟨⟨#v[0, 0, 1, 1, 1, 0], .plus⟩, 12⟩, ⟨⟨#v[1, -1, 0, 0, 0, -1], .minus⟩, 13⟩]
  coefFrac := 0
  maxDutyU := 30000
  normDen2 := 254
  crcVariant := .ccitt
  startByte := 0x02
  stopByte := 0x03
  cmdSetDuty := 0x05
  cmdSetCurrent := 0x06
  cmdSetCurrentBrake := 0x07
  cmdGetValues := 0x04
  cmdForward := 0x22

/-- TESTCFG-B with REFCFG, divisor 127.5. -/
def cfgB : Cfg :=
  { cfgA with
    thruster0 := ⟨#v[64, 0, 0, 0, 0, 32], .plus⟩
    bus := [⟨⟨#v[45, -45, 0, 0, 0, -19], .minus⟩, 200⟩]
    coefFrac := 6
    maxDutyU := 100000
    normDen2 := 255 }

/-- TESTCFG-A in a build with the other checksum. -/
def cfgA001 : Cfg := { cfgA with crcVariant := .a001 }

/-- A reset block of TESTCFG-A. -/
def s0 : State := State.resetOf cfgA

/-- A block with the given bytes in `RXBUF` from offset 0 on, and `RXLEN` = n. -/
def received (bytes : List Byte) (n : Word16) : State := { s0 with rxbuf := Memory.writeRange [] 0 bytes, rxlen := n }

/-- The first n bytes of `TXBUF`. -/
def sent (s : State) (n : Nat) : List Byte := s.txbuf.readRange 0 n

/-- The six decoder results: status, command, length, kind, node, value. -/
def decoded (s : State) : List Nat × Int :=
  ([s.rxst.toNat, s.rxcmd.toNat, s.rxplen.toNat, s.rxkind.toNat, s.rxnode.toNat], s.rxval.toInt)

/-! ## WellFormed: an ill-formed term for each check -/

theorem test_wf_configurations : cfgA.wf ∧ cfgB.wf ∧ cfgA001.wf := by decide
theorem test_wf_refuses_257_thrusters : ¬ ({ cfgA with bus := List.replicate 256 ⟨cfgA.thruster0, 1⟩ } : Cfg).wf := by
  decide +kernel
theorem test_wf_refuses_8_fraction_bits : ¬ ({ cfgA with coefFrac := 8 } : Cfg).wf := by decide
theorem test_wf_refuses_duty_beyond_full_scale : ¬ ({ cfgA with maxDutyU := 100001 } : Cfg).wf := by decide
theorem test_wf_refuses_another_divisor : ¬ ({ cfgA with normDen2 := 127 } : Cfg).wf := by decide
theorem test_wf_refuses_equal_command_ids : ¬ ({ cfgA with cmdForward := 0x05 } : Cfg).wf := by decide
theorem test_wf_refuses_missing_thruster : Instr.wf cfgA (.dth 4) = false ∧ Instr.wf cfgA (.dth 3) = true := by decide
theorem test_wf_refuses_missing_locations :
    HostAction.wf cfgA (.write (.rxbuf 260) 1) = false ∧ HostAction.wf cfgA (.write (.rxbuf 259) 1) = true ∧
      HostAction.wf cfgA (.read (.txbuf 21)) = false ∧ HostAction.wf cfgA (.read (.txbuf 20)) = true ∧
      HostAction.wf cfgA (.read (.th 4)) = false ∧ HostAction.wf cfgA (.read (.th 3)) = true := by decide

/-! ## Decoding: words written out from R73 and R76 (V81 to V92) -/

theorem test_decode_mix : decodeCommand 0b00000000_00000001 = .ok .mix := by decide
theorem test_decode_disp : decodeCommand 0b00000000_00000010 = .ok .disp := by decide
theorem test_decode_dth : decodeCommand 0b11111111_00000011 = .ok (.dth 255) := by decide
theorem test_decode_esd : decodeCommand 0b00000000_00010000 = .ok .esd := by decide
theorem test_decode_esdr : decodeCommand 0b00001011_00010001 = .ok (.esdr 11) := by decide
theorem test_decode_esc : decodeCommand 0b00000000_00010010 = .ok .esc := by decide
theorem test_decode_escb : decodeCommand 0b00000000_00010011 = .ok .escb := by decide
theorem test_decode_egv : decodeCommand 0b00000000_00010100 = .ok .egv := by decide
theorem test_decode_crc : decodeCommand 0b00000000_00100000 = .ok .crc := by decide
theorem test_decode_dec : decodeCommand 0b00000000_00100001 = .ok .dec := by decide
theorem test_decode_illegal :
    decodeCommand 0x0000 = .error (.unknownOp 0) ∧ decodeCommand 0x0101 = .error (.argNotZero 1 1) ∧
      decodeCommand 0x00FF = .error (.unknownOp 0xFF) ∧ decodeCommand 0x0110 = .error (.argNotZero 0x10 1) := by decide
theorem test_decode_setDuty :
    decodePayload cfgA [0x05, 0xFF, 0xFF, 0x8A, 0xD0] = .ok (.setDuty (BitVec.ofInt 32 (-30000))) := by decide
theorem test_decode_setDutyRouted :
    decodePayload cfgA [0x22, 0x0B, 0x05, 0x00, 0x00, 0x75, 0x30] = .ok (.setDutyRouted 11 30000) := by decide
theorem test_decode_setCurrent :
    decodePayload cfgA [0x06, 0x00, 0x00, 0x05, 0xDC] = .ok (.setCurrent 1500) := by decide
theorem test_decode_setCurrentBrake :
    decodePayload cfgA [0x07, 0x00, 0x00, 0x0B, 0xB8] = .ok (.setCurrentBrake 3000) := by decide
theorem test_decode_getValues : decodePayload cfgA [0x04] = .ok .getValues := by decide
theorem test_decode_raw :
    decodePayload cfgA [0x22, 0x0B, 0x06, 0x00, 0x00, 0x05, 0xDC] = .error .rawPayload ∧
      decodePayload cfgA [0x05, 0x00, 0x00, 0x01] = .error .rawPayload := by decide
theorem test_decode_table_word : decodeTableWord 16 0x0B11 = some (.esdr 11) := by decide

/-! ## The operations -/

/-- V12: the worked example, and LIGHT and MANIP set (V18). -/
theorem test_mix_rounds_toward_zero :
    (mixOp cfgA { s0 with sp := 0xFFFFE20000003264 }).th.map BitVec.toInt = [23622, -28346, 0, -18897] := by
  decide +kernel
/-- V20d: fractional coefficients, -128, and a lane that saturates. -/
theorem test_mix_saturates :
    (mixOp cfgB { s0 with sp := 0x00007F0000007F80 }).th.map BitVec.toInt = [-50588, 100000] := by decide +kernel

/-- V32. -/
theorem test_esd :
    sent (esdOp cfgA { s0 with val := BitVec.ofInt 32 (-30000) }) 10
      = [0x02, 0x05, 0x05, 0xFF, 0xFF, 0x8A, 0xD0, 0x98, 0xB9, 0x03] := by decide +kernel
/-- V37 in the other variant: the most negative value is encoded as it is (R117). -/
theorem test_esd_extreme :
    sent (esdOp cfgA001 { s0 with val := 0x80000000 }) 10
      = [0x02, 0x05, 0x05, 0x80, 0x00, 0x00, 0x00, 0xC0, 0xC1, 0x03] := by decide +kernel
/-- V41. -/
theorem test_esdr :
    sent (esdrOp cfgA 255 { s0 with val := BitVec.ofInt 32 (-100000) }) 12
      = [0x02, 0x07, 0x22, 0xFF, 0x05, 0xFF, 0xFE, 0x79, 0x60, 0x14, 0x6A, 0x03] := by decide +kernel
/-- V43. -/
theorem test_esc :
    sent (escOp cfgA { s0 with val := BitVec.ofInt 32 (-2500) }) 10
      = [0x02, 0x05, 0x06, 0xFF, 0xFF, 0xF6, 0x3C, 0x07, 0xFD, 0x03] := by decide +kernel
/-- V44. -/
theorem test_escb :
    sent (escbOp cfgA { s0 with val := 3000 }) 10
      = [0x02, 0x05, 0x07, 0x00, 0x00, 0x0B, 0xB8, 0x9D, 0xFD, 0x03] := by decide +kernel
/-- V45 after V38: the stale bytes of the longer frame stay (R27). -/
theorem test_egv_keeps_stale_bytes :
    sent (egvOp cfgA (esdrOp cfgA 11 { s0 with val := 30000 })) 12
      = [0x02, 0x01, 0x04, 0x40, 0x84, 0x03, 0x00, 0x75, 0x30, 0x2F, 0x1F, 0x03] ∧
    (egvOp cfgA s0).txlen = 6 := by decide +kernel

/-- V22: the check string in both variants. -/
theorem test_crc_check_values :
    (crcOp cfgA (received [0x31, 0x32, 0x33, 0x34, 0x35, 0x36, 0x37, 0x38, 0x39] 9)).crcr = 0x31C3 ∧
    (crcOp cfgA001 (received [0x31, 0x32, 0x33, 0x34, 0x35, 0x36, 0x37, 0x38, 0x39] 9)).crcr = 0x4B37 := by
  decide +kernel
/-- R124: `RXLEN` = 261 raises BADLEN. -/
theorem test_crc_badlen : crcOp cfgA (received [] 261) = { received [] 261 with err := 3, errinfo := 0x0020 } := by
  decide +kernel

/-- V50. -/
theorem test_dec_routed :
    decoded (decOp cfgA (received [0x02, 0x07, 0x22, 0x0B, 0x05, 0x00, 0x00, 0x75, 0x30, 0x2F, 0x1F, 0x03] 12))
      = ([1, 0x22, 7, 5, 11], 30000) := by decide +kernel
/-- V61 to V71: each defect, and the priority among two (V71). -/
theorem test_dec_rejects :
    [([0x02, 0x00, 0x00, 0x00, 0x03], (5 : Word16)),
     ([0x03, 0x07, 0x22, 0x0B, 0x05, 0x00, 0x00, 0x75, 0x30, 0x2F, 0x1F, 0x03], 12),
     ([0x02, 0x00, 0x04, 0x40, 0x84, 0x03], 6),
     ([0x02, 0x07, 0x22, 0x0B, 0x05, 0x00, 0x00, 0x75, 0x30, 0x2F, 0x1F, 0x03], 300),
     ([0x02, 0x07, 0x22, 0x0B, 0x05, 0x00, 0x00, 0x75, 0x30, 0x2F, 0x1E, 0x02], 12),
     ([0x02, 0x07, 0x22, 0x0B, 0x05, 0x00, 0x00, 0x75, 0x30, 0x2F, 0x1E, 0x03], 12)].map
      (fun x => (decOp cfgA (received x.1 x.2)).rxst) = [2, 3, 4, 5, 6, 7] := by decide +kernel

/-- V51, as the wire payload itself. -/
theorem test_setDuty :
    decoded (acceptPayload cfgA (payDuty cfgA (BitVec.ofInt 32 (-30000))) s0) = ([1, 5, 5, 1, 0], -30000) := by
  decide +kernel
/-- V50, as the wire payload itself. -/
theorem test_setDutyRouted :
    decoded (acceptPayload cfgA (payDutyRouted cfgA 11 30000) s0) = ([1, 0x22, 7, 5, 11], 30000) := by decide +kernel
/-- V52, as the wire payload itself. -/
theorem test_setCurrent :
    decoded (acceptPayload cfgA (payCurrent cfgA (BitVec.ofInt 32 (-2500))) s0) = ([1, 6, 5, 2, 0], -2500) := by
  decide +kernel
/-- V53, as the wire payload itself. -/
theorem test_setCurrentBrake :
    decoded (acceptPayload cfgA (payBrake cfgA 3000) s0) = ([1, 7, 5, 3, 0], 3000) := by decide +kernel
/-- V54, as the wire payload itself. -/
theorem test_getValues : decoded (acceptPayload cfgA (payGetValues cfgA) s0) = ([1, 4, 1, 4, 0], 0) := by
  decide +kernel
/-- V57: a routed prefix around set-current is RAW. -/
theorem test_dec_raw :
    decoded (decOp cfgA (received [0x02, 0x07, 0x22, 0x0B, 0x06, 0x00, 0x00, 0x05, 0xDC, 0xF5, 0x36, 0x03] 12))
      = ([1, 0x22, 7, 0, 0], 0) := by decide +kernel

/-- The thruster registers of V75. -/
def thV75 : List Word32 := [30000, BitVec.ofInt 32 (-30000), 0, BitVec.ofInt 32 (-30000)]

/-- V75. -/
theorem test_disp :
    (dispOp cfgA { s0 with th := thV75 }).out =
      [⟨.localLink, 0, [0x02, 0x05, 0x05, 0x00, 0x00, 0x75, 0x30, 0xE2, 0xA8, 0x03]⟩,
       ⟨.bus, 11, [0x02, 0x07, 0x22, 0x0B, 0x05, 0xFF, 0xFF, 0x8A, 0xD0, 0x55, 0x0E, 0x03]⟩,
       ⟨.bus, 12, [0x02, 0x07, 0x22, 0x0C, 0x05, 0x00, 0x00, 0x00, 0x00, 0x26, 0xA1, 0x03]⟩,
       ⟨.bus, 13, [0x02, 0x07, 0x22, 0x0D, 0x05, 0xFF, 0xFF, 0x8A, 0xD0, 0xD8, 0xEF, 0x03]⟩] := by decide +kernel
/-- V78 and V79. -/
theorem test_dth :
    (dthOp cfgA 0 { s0 with th := thV75 }).out =
      [⟨.localLink, 0, [0x02, 0x05, 0x05, 0x00, 0x00, 0x75, 0x30, 0xE2, 0xA8, 0x03]⟩] ∧
    (dthOp cfgA 3 { s0 with th := thV75 }).out =
      [⟨.bus, 13, [0x02, 0x07, 0x22, 0x0D, 0x05, 0xFF, 0xFF, 0x8A, 0xD0, 0xD8, 0xEF, 0x03]⟩] := by decide +kernel
/-- V80. -/
theorem test_dth_badidx : dthOp cfgA 4 s0 = { s0 with err := 2, errinfo := 0x0403 } := by decide +kernel

/-! ## The setpoint register and the host's side -/

/-- V95. -/
theorem test_setpoint_views :
    toBytes 0x11C880007F01FF80 = [0x80, 0xFF, 0x01, 0x7F, 0x00, 0x80, 0xC8, 0x11] ∧
      (List.finRange 6).map (axes 0x11C880007F01FF80) = [-128, -1, 1, 127, 0, -128] ∧
      fromBytes [0x80, 0xFF, 0x01, 0x7F, 0x00, 0x80, 0xC8, 0x11] = 0x11C880007F01FF80 := by decide +kernel
/-- The host write of AX[1] = -50 in section 9 of the vectors. -/
theorem test_host_write_axis :
    (({ s0 with sp := 0x32 } : State).hostWrite (.ax 1) (BitVec.ofInt 64 (-50))).sp = 0x000000000000CE32 := by
  decide +kernel
/-- V89: an illegal word on a running block raises ILLOP; a second one changes nothing (R179). -/
theorem test_illop_and_halt :
    issueCommand 0x0101 s0 = .next { s0 with err := 1, errinfo := 0x0101 } ∧
      issueCommand 0x0000 { s0 with err := 1, errinfo := 0x0101 } = .next { s0 with err := 1, errinfo := 0x0101 } :=
  ⟨rfl, rfl⟩
/-- A word placed by `withFetchWord` is the next instruction. -/
theorem test_fetch_word : step (State.reset.withFetchWord 16 0x0B11) = exec (.esdr 11) State.reset := rfl

/-! ## Witnesses: for each obligation with hypotheses, a concrete state and operands that meet them together

`Config.cfg` is opaque, so what a clause asks of the configuration is shown either for every configuration (index 0
always exists) or, in the statements over `c : Cfg`, for TESTCFG-A. -/

/-- A running block that is not at reset: setpoint, value, received bytes, a stale frame byte and the given pending
host actions. -/
def busy (as : List HostAction) : State :=
  { State.reset with
    sp := 0x3264, val := 7, txbuf := [(11, 3)], rxbuf := [(0, 2), (259, 9)], rxlen := 6, hostStream := as }

/-- The same block after an ILLOP. -/
def faulted (as : List HostAction) : State := { busy as with err := 1, errinfo := 0x0101 }

/-- A block that has received the bytes. -/
def holding (bytes : List Byte) (n : Word16) : State :=
  { State.reset with rxbuf := Memory.writeRange [] 0 bytes, rxlen := n }

theorem holding_reads (bytes : List Byte) (n : Word16) :
    (holding bytes n).rxbuf.readRange 0 bytes.length = bytes :=
  Memory.readRange_writeRange (m := []) ⟨.nil, by simp⟩ 0 bytes

/-- Shared by the statements about one or more instructions on a running block with well-formed buffers:
ValueEncodersBuildTheirFrame, RoutedEncoderBuildsItsFrame, GetValuesEncoderBuildsItsFrame, ShorterFrameLeavesStaleBytes,
DecReportsTheFirstDefect, WirePayloadsSetTheDecoderResults, DthSendsOneThruster, DispSendsEveryThruster,
DispIsTheSequenceOfDth. -/
theorem witness_running_block :
    (busy []).err = 0 ∧ (busy []).txbuf.wf ∧ (busy []).rxbuf.wf ∧ (busy []).rxlen.toNat ≤ 260 ∧
      (∀ i, ∃ t, exec i (busy []) = .next t) :=
  ⟨rfl, by decide, by decide, by decide, fun i => ⟨_, exec_of_running i rfl⟩⟩

theorem witness_EncodedInstructionDecodesToItself :
    cfgA.wf ∧ decode cfgA (encode cfgA (.setDutyRouted 255 0x80000000)) = .ok (.setDutyRouted 255 0x80000000) := by
  decide
theorem witness_DecodedBitsAreTheEncoding :
    decode cfgA (.command 0xFF11) = .ok (.esdr 255) ∧ decode cfgA (.payload [4]) = .ok .getValues := by decide
theorem witness_IllegalCommandWordRaisesIllop :
    (∀ r ∈ commandTable, r.selects 0x0101 = false) ∧ (∀ r ∈ commandTable, r.selects 0xFF00 = false) ∧
      (busy [.command 0x0101, .reset]).hostStream = .command 0x0101 :: [.reset] ∧
      (busy [.command 0x0101, .reset]).err = 0 := by decide
theorem witness_StepRunsTheDecodedInstruction :
    (busy [.command 0xFF03]).hostStream = .command 0xFF03 :: [] ∧ (busy [.command 0xFF03]).err = 0 ∧
      decodeCommand 0xFF03 = .ok (.dth 255) := by decide
theorem witness_FaultedBlockDiscardsCommands :
    (faulted []).err ≠ 0 ∧ (faulted [.command 1]).hostStream = .command 1 :: [] ∧
      (faulted [.read .err]).hostStream = .read .err :: [] ∧ HostReg.present Config.cfg .err = true ∧
      (faulted [.write .sp 5]).hostStream = .write .sp 5 :: [] ∧
      (faulted [.write (.ax 5) 5]).hostStream = .write (.ax 5) 5 :: [] ∧
      (faulted [.write .val 5]).hostStream = .write .val 5 :: [] ∧
      (faulted [.write (.rxbuf 259) 5]).hostStream = .write (.rxbuf 259) 5 :: [] ∧ (faulted []).rxbuf.wf ∧
      (faulted [.write .rxlen 5]).hostStream = .write .rxlen 5 :: [] := by
  refine ⟨?_, rfl, rfl, rfl, rfl, rfl, rfl, rfl, ?_, rfl⟩ <;> decide
theorem witness_FaultStaysUntilReset :
    (faulted [.command 1, .write .sp 5]).err ≠ 0 ∧
      HostAction.reset ∉ (faulted [.command 1, .write .sp 5]).hostStream ∧
      Host.Core.run Sys2Proof.core 2 (faulted [.command 1, .write .sp 5]) = .next { faulted [] with sp := 5 } := by
  refine ⟨?_, ?_, rfl⟩ <;> decide
theorem witness_IdleBlockAndHostReadsChangeNothing :
    (busy []).hostStream = [] ∧ (busy [.read (.rxbuf 259)]).hostStream = .read (.rxbuf 259) :: [] ∧
      HostReg.present Config.cfg (.rxbuf 259) = true ∧ HostReg.present Config.cfg (.th 0) = true := by
  refine ⟨rfl, rfl, rfl, ?_⟩
  simp [HostReg.present, Cfg.nThr]
theorem witness_OutputHistoryOnlyGrows :
    step (busy [.command 2]) = .next (dispOp Config.cfg (busy [])) ∧
      ∀ rest, (busy [.command 2]).hostStream ≠ .reset :: rest := ⟨rfl, fun _ h => by cases h⟩
theorem witness_StepKeepsInvariant :
    (busy [.command 2]).Inv Config.cfg ∧ step (busy [.command 2]) = .next (dispOp Config.cfg (busy [])) := by
  refine ⟨?_, rfl⟩
  constructor
  · exact List.length_replicate
  · intro x hx
    have zero : x = 0 := (List.mem_replicate.mp hx).2
    subst zero
    simp
  · exact .inl rfl
  · exact Nat.zero_le 7
  · exact fun _ => ⟨rfl, rfl, rfl, rfl, rfl⟩
  · exact Nat.zero_le 3
  · exact fun _ => rfl
  · exact fun r hr => absurd hr List.not_mem_nil
  all_goals
    simp only [busy]
    decide
theorem witness_ResetClearsEverything :
    (faulted [.reset, .command 1]).hostStream = .reset :: [.command 1] := rfl

theorem witness_MixWritesEveryThruster :
    (busy []).err = 0 ∧ Config.cfg.lanes[0]? = some Config.cfg.thruster0 := ⟨rfl, rfl⟩
theorem witness_MixStaysInsideTheCeiling :
    (busy []).err = 0 ∧ exec .mix (busy []) = .next (mixOp Config.cfg (busy [])) ∧
      (mixOp Config.cfg (busy [])).th ≠ [] := by
  refine ⟨rfl, rfl, ?_⟩
  simp [mixOp, mix, State.setTh, Cfg.lanes]
theorem witness_MixDependsOnTheAxesOnly :
    (busy []).err = 0 ∧ ({ busy [] with sp := 0xFFFF000000003264, val := 1 } : State).err = 0 ∧
      (0xFFFF000000003264 : Word64).extractLsb' 0 48 = (0x3264 : Word64).extractLsb' 0 48 ∧
      (∀ s : State, s.err = 0 → ∃ t, exec .mix s = .next t) :=
  ⟨rfl, rfl, by decide, fun _ h => ⟨_, exec_of_running .mix h⟩⟩
theorem witness_MixIsOdd :
    (busy []).err = 0 ∧ ({ busy [] with sp := 0xCE9C } : State).err = 0 ∧
      (∀ k, axes (0xCE9C : Word64) k = -axes (0x3264 : Word64) k) ∧ axes (0x3264 : Word64) 1 = 50 ∧
      (∀ s : State, s.err = 0 → ∃ t, exec .mix s = .next t) :=
  ⟨rfl, rfl, by decide, by decide, fun _ h => ⟨_, exec_of_running .mix h⟩⟩
/-- Two builds that share thruster 1 and the mixer's constants, and differ in thruster 0, in the number of thrusters and
in a codec byte. -/
theorem witness_LanesAreIndependent :
    let other : Cfg := { cfgA with thruster0 := ⟨#v[9, 9, 9, 9, 9, 9], .minus⟩, bus := cfgA.bus.take 1, startByte := 9 }
    other.maxDutyU = cfgA.maxDutyU ∧ other.normDen2 = cfgA.normDen2 ∧ other.coefFrac = cfgA.coefFrac ∧
      other.lanes[1]? = cfgA.lanes[1]? ∧ other.lanes ≠ cfgA.lanes := by decide
theorem witness_SingleAxisReachesFullScale :
    cfgA.wf ∧ cfgA.coefFrac = 0 ∧ cfgA.normDen2 = 254 ∧ cfgA.thruster0.dir = .plus ∧
      (cfgA.thruster0.mm.get 0).toInt = 1 ∧ (∀ j, j ≠ 0 → (cfgA.thruster0.mm.get j).toInt = 0) ∧
      ({ cfgA with normDen2 := 255 } : Cfg).wf ∧
      axes 0x7F 0 = 127 ∧ axes 0x81 0 = -127 ∧
      (∀ k, (cfgA.thruster0.mm.get k).toInt = 0 ∨ axes 0xFF00 k = 0) := by decide
theorem witness_MixerWidthsSuffice : cfgA.wf ∧ cfgB.wf := by decide

theorem witness_CrcOperationChecksTheBuffer :
    (holding [1] 260).err = 0 ∧ (holding [1] 260).rxlen.toNat ≤ 260 ∧ (holding [1] 261).err = 0 ∧
      260 < (holding [1] 261).rxlen.toNat ∧ cfgA.crcVariant = .ccitt ∧ cfgA001.crcVariant = .a001 := by
  refine ⟨rfl, ?_, rfl, ?_, rfl, rfl⟩ <;> decide
theorem witness_CrcSeesEverySingleBitError : ([0x04, 0x05] : List Byte)[1]? = some 0x05 := rfl
theorem witness_FrameHasTheWireLayout :
    1 ≤ ([4] : List Byte).length ∧ (List.replicate 255 (7 : Byte)).length ≤ 255 := by decide +kernel
/-- Each place a bit can flip in, in the frame of one payload byte: START, LENGTH, payload, the two checksum bytes,
STOP. -/
theorem witness_SingleBitCorruptionIsRejected :
    ∀ j : Fin 6, ∃ x, (frame cfgA [4])[j.val]? = some x ∧
      Memory.readRange (Memory.writeRange [] 0 ((frame cfgA [4]).set j.val (x ^^^ ((1 : Byte) <<< 7)))) 0 6
        = (frame cfgA [4]).set j.val (x ^^^ ((1 : Byte) <<< 7)) := by decide +kernel

/-- DEC on the frame of any payload of 1 to 255 bytes. -/
theorem witness_DecClassifiesThePayload (p : List Byte) (h : p.length ≤ 255) :
    let s := holding (frame Config.cfg p) (BitVec.ofNat 16 (p.length + 5))
    s.err = 0 ∧ s.rxlen.toNat = p.length + 5 ∧ s.rxbuf.readRange 0 (p.length + 5) = frame Config.cfg p ∧
      exec .dec s = .next (decOp Config.cfg s) := by
  refine ⟨rfl, ?_, ?_, rfl⟩
  · show (BitVec.ofNat 16 (p.length + 5)).toNat = _
    rw [BitVec.toNat_ofNat]
    omega
  · rw [← length_frame Config.cfg p]
    exact holding_reads _ _
/-- A payload of each row of R150 in the build's own command-ids. -/
theorem witness_payload_of_each_kind :
    payDuty Config.cfg 7 = [Config.cfg.cmdSetDuty, 0, 0, 0, 7] ∧
      payCurrent Config.cfg 7 = [Config.cfg.cmdSetCurrent, 0, 0, 0, 7] ∧
      payBrake Config.cfg 7 = [Config.cfg.cmdSetCurrentBrake, 0, 0, 0, 7] ∧
      payGetValues Config.cfg = [Config.cfg.cmdGetValues] ∧
      payDutyRouted Config.cfg 11 7 = [Config.cfg.cmdForward, 11, Config.cfg.cmdSetDuty, 0, 0, 0, 7] ∧
      decodePayload Config.cfg [0, 0] = .error .rawPayload := ⟨rfl, rfl, rfl, rfl, rfl, rfl⟩
theorem witness_DecRunsTheReceivedPayload :
    let s := holding (frame Config.cfg (payDuty Config.cfg 7)) 10
    encode Config.cfg (.setDuty 7) = .payload (payDuty Config.cfg 7) ∧
      s.rxlen.toNat = (payDuty Config.cfg 7).length + 5 ∧
      s.rxbuf.readRange 0 ((payDuty Config.cfg 7).length + 5) = frame Config.cfg (payDuty Config.cfg 7) :=
  ⟨rfl, rfl, holding_reads (frame Config.cfg (payDuty Config.cfg 7)) 10⟩
theorem witness_EncodedFrameRoundTrips :
    let t := esdrOp Config.cfg 255 (busy [])
    (busy []).err = 0 ∧ (busy []).txbuf.wf ∧ exec (.esdr 255) (busy []) = .next t ∧
      t.txbuf.readRange 0 t.txlen.toNat = t.txbuf.readRange 0 t.txlen.toNat ∧
      ∃ u, exec .dec { t with rxbuf := t.txbuf, rxlen := t.txlen.setWidth 16 } = .next u :=
  ⟨rfl, by decide, rfl, rfl, _, rfl⟩

theorem witness_RouterSendsThrusterRegistersOnly :
    (busy []).err = 0 ∧ ({ busy [] with sp := 1, val := 1 } : State).err = 0 ∧
      (busy []).th = ({ busy [] with sp := 1, val := 1 } : State).th ∧
      (busy []).out = ({ busy [] with sp := 1, val := 1 } : State).out ∧
      (∀ (i : Instr) (s : State), s.err = 0 → ∃ t, exec i s = .next t) :=
  ⟨rfl, rfl, rfl, rfl, fun i _ h => ⟨_, exec_of_running i h⟩⟩
/-- The second block has seen a host write of `VAL` and one of `RXLEN`, and sends another record first. -/
theorem witness_HeartbeatRepeatsTheRecords :
    let u := sendThruster Config.cfg { busy [] with val := 5, rxlen := 9 } 0
    (busy []).err = 0 ∧ u.err = 0 ∧ u.sp = (busy []).sp ∧ u.out ≠ (busy []).out ∧
      runInstrs [.esd, .egv] (busy []) = .next (egvOp Config.cfg (esdOp Config.cfg (busy []))) ∧
      Host.Core.run Sys2Proof.core 3 (busy [.write .val 5, .read .err, .command 0x14])
        = .next (egvOp Config.cfg { busy [] with val := 5 }) ∧
      HostAction.reset ∉ (busy [.write .val 5, .read .err, .command 0x14]).hostStream ∧
      (∀ r v, HostAction.write r v ∈ (busy [.write .val 5, .read .err, .command 0x14]).hostStream → r = .val) := by
  refine ⟨rfl, rfl, rfl, ?_, rfl, rfl, ?_, ?_⟩
  · simp [sendThruster, busy, State.reset]
  · simp [busy]
  · simp [busy]
theorem witness_OnlyDthAndCrcFault :
    (holding [] 261).err = 0 ∧ exec .crc (holding [] 261) = .next (crcOp Config.cfg (holding [] 261)) ∧
      (crcOp Config.cfg (holding [] 261)).err ≠ 0 := by
  refine ⟨rfl, rfl, ?_⟩
  decide
theorem witness_BadIndexTakesTheFault :
    cfgA.wf ∧ cfgA.nThr ≤ (4 : Byte).toNat ∧ (3 : Byte).toNat < cfgA.nThr ∧ (0 : Byte).toNat < cfgA.nThr := by decide
theorem witness_EachRegisterHasItsWriters :
    exec .mix (busy []) = .next (mixOp Config.cfg (busy [])) ∧ exec .crc (busy []) = .next (crcOp Config.cfg (busy [])) ∧
      exec (.dth 0) (busy []) = .next (dthOp Config.cfg 0 (busy [])) ∧
      exec .dec (busy []) = .next (decOp Config.cfg (busy [])) := ⟨rfl, rfl, rfl, rfl⟩

theorem witness_SetpointWritesReachTheirFields :
    (busy [.write (.ax 0) 5]).hostStream = .write (.ax 0) 5 :: [] ∧
      (busy [.write (.ax 5) 0xFFF80]).hostStream = .write (.ax 5) 0xFFF80 :: [] ∧
      (busy [.write .sp 5]).hostStream = .write .sp 5 :: [] := ⟨rfl, rfl, rfl⟩
theorem witness_ReadOnlyRegistersIgnoreWrites :
    0 < Config.cfg.nThr ∧ (20 : Nat) < 21 ∧ (busy [.write (.th 0) 5]).hostStream = .write (.th 0) 5 :: [] ∧
      (busy [.write (.txbuf 20) 5]).hostStream = .write (.txbuf 20) 5 :: [] ∧
      (busy [.write .err 5]).hostStream = .write .err 5 :: [] := by
  refine ⟨?_, ?_, rfl, rfl, rfl⟩
  · simp [Cfg.nThr]
  · decide
theorem witness_HostReadsBackWhatItWrote :
    (busy []).rxbuf.wf ∧ (259 : Nat) < 260 ∧ ({ busy [] with th := thV75 } : State).th[0]? = some 30000 := by decide
theorem witness_HostFillsTheReceiveBuffer :
    (busy (writeRxbuf 0 (List.replicate 260 0xAA) ++ [.command 0x20])).rxbuf.wf ∧
      (List.replicate 260 (0xAA : Byte)).length ≤ 260 ∧
      (busy (writeRxbuf 0 (List.replicate 260 0xAA) ++ [.command 0x20])).hostStream =
        writeRxbuf 0 (List.replicate 260 0xAA) ++ [.command 0x20] := by
  refine ⟨?_, ?_, rfl⟩
  · show Memory.wf [(0, 2), (259, 9)]
    decide
  · decide +kernel
theorem witness_MissingLocationsFault :
    let n := Config.cfg.nThr
    (busy [.write (.rxbuf 260) 5]).hostStream = .write (.rxbuf 260) 5 :: [] ∧
      (busy [.read (.rxbuf 260)]).hostStream = .read (.rxbuf 260) :: [] ∧
      (busy [.write (.txbuf 21) 5]).hostStream = .write (.txbuf 21) 5 :: [] ∧
      (busy [.read (.txbuf 21)]).hostStream = .read (.txbuf 21) :: [] ∧
      (busy [.write (.th n) 5]).hostStream = .write (.th n) 5 :: [] ∧
      (busy [.read (.th n)]).hostStream = .read (.th n) :: [] ∧ Config.cfg.nThr ≤ n ∧
      (busy [.write (.rxbuf 259) 5]).hostStream = .write (.rxbuf 259) 5 :: [] ∧
      (busy [.write (.rxbuf 259) 5]).rxbuf.wf := by
  refine ⟨rfl, rfl, rfl, rfl, rfl, rfl, Nat.le_refl _, rfl, ?_⟩
  decide
theorem witness_SetpointBytesRoundTrip : ([1, 2, 3, 4, 5, 6, 7, 255] : List Byte).length = 8 := rfl
theorem witness_PlacedTableWordRunsNext :
    (busy []).err = 0 ∧ (busy []).rxbuf.wf ∧ decodeTableWord 16 0xFF03 = some (.dth 255) ∧
      decodeTableWord 8 Config.cfg.cmdGetValues.toNat = some .getValues ∧
      decodeTableWord 40 Config.cfg.cmdSetDuty.toNat = some (.setDuty 0) ∧
      decodeTableWord 56 (Config.cfg.cmdForward.toNat + 65536 * Config.cfg.cmdSetDuty.toNat) =
        some (.setDutyRouted 0 0) := by
  refine ⟨rfl, by decide, by decide, ?_, ?_, ?_⟩
  · simp [decodeTableWord, encodedOfTableWord, bytesOfNat, decode, decodePayload, Except.toOption]
  · have small : Config.cfg.cmdSetDuty.toNat / 256 = 0 := by omega
    simp [decodeTableWord, encodedOfTableWord, bytesOfNat, decode, decodePayload, Except.toOption, small, unbe32]
  · have b0 : BitVec.ofNat 8 (Config.cfg.cmdForward.toNat + 65536 * Config.cfg.cmdSetDuty.toNat)
        = Config.cfg.cmdForward := BitVec.eq_of_toNat_eq (by rw [BitVec.toNat_ofNat]; omega)
    have d1 : (Config.cfg.cmdForward.toNat + 65536 * Config.cfg.cmdSetDuty.toNat) / 256
        = 256 * Config.cfg.cmdSetDuty.toNat := by omega
    have d2 : 256 * Config.cfg.cmdSetDuty.toNat / 256 = Config.cfg.cmdSetDuty.toNat := by omega
    have d3 : Config.cfg.cmdSetDuty.toNat / 256 = 0 := by omega
    have b1 : BitVec.ofNat 8 (256 * Config.cfg.cmdSetDuty.toNat) = 0 :=
      BitVec.eq_of_toNat_eq (by rw [BitVec.toNat_ofNat]; simp)
    simp [decodeTableWord, encodedOfTableWord, bytesOfNat, decode, decodePayload, Except.toOption, b0, d1, d2, d3, b1,
      unbe32]
theorem witness_ValueAndLengthWritesStoreTheirValue :
    (busy [.write .val 0x180000000]).hostStream = .write .val 0x180000000 :: [] ∧
      (busy [.write .rxlen 0x1FFFF]).hostStream = .write .rxlen 0x1FFFF :: [] := ⟨rfl, rfl⟩

end Sys2Proof.Tests
end

section
/-! PROOFS. The state (spec/10_state.md): what each operation and each step can do, the invariant of R38, the output
history of R30, the writers of each register (R36), and the host's reads and writes. -/

namespace Sys2Proof.Machine

/-! ## What each operation can do -/

/-- R124: CRC takes BADLEN or writes `CRCR`. -/
theorem crcOp_cases (c : Cfg) (s : State) :
    (rxFrameMax < s.rxlen.toNat ∧ crcOp c s = s.takeFault .badlen (commandWord 0x20 0)) ∨
      (s.rxlen.toNat ≤ rxFrameMax ∧ crcOp c s = s.setCrcr (crc16 c (s.rxbuf.readRange 0 s.rxlen.toNat))) := by
  rw [crcOp]
  split_ifs with h
  · exact .inl ⟨h, rfl⟩
  · exact .inr ⟨by omega, rfl⟩

/-- R164: DTH takes BADIDX or is one dispatch step. -/
theorem dthOp_cases (c : Cfg) (i : Byte) (s : State) :
    (c.nThr ≤ i.toNat ∧ dthOp c i s = s.takeFault .badidx (commandWord 0x03 i)) ∨
      (i.toNat < c.nThr ∧ dthOp c i s = sendThruster c s i.toNat) := by
  rw [dthOp]
  split_ifs with h
  · exact .inl ⟨h, rfl⟩
  · exact .inr ⟨by omega, rfl⟩

/-- R151: DEC accepts the payload of a valid frame or rejects the frame. -/
theorem decOp_cases (c : Cfg) (s : State) :
    (∃ p, frameCheck c s.rxlen.toNat s.rxbuf = .good p ∧ decOp c s = acceptPayload c p s) ∨
      (∃ st, frameCheck c s.rxlen.toNat s.rxbuf = .bad st ∧ decOp c s = rejectFrame st s) := by
  rw [decOp]
  cases h : frameCheck c s.rxlen.toNat s.rxbuf with
  | good p => exact .inl ⟨p, rfl, rfl⟩
  | bad st => exact .inr ⟨st, rfl, rfl⟩

/-- DEC writes the decoder results and nothing else (R151). -/
theorem decOp_eq_setDecoded (c : Cfg) (s : State) :
    ∃ st cmd plen kd node v, decOp c s = s.setDecoded st cmd plen kd node v := by
  rcases decOp_cases c s with ⟨p, -, h⟩ | ⟨st, -, h⟩
  · exact ⟨_, _, _, _, _, _, h⟩
  · exact ⟨_, _, _, _, _, _, h⟩

/-- R166: DISP appends one record for each thruster, and changes `TXBUF` and `TXLEN` besides. -/
theorem dispOp_eq (c : Cfg) (s : State) :
    dispOp c s =
      { s with
        txbuf := (dispOp c s).txbuf
        txlen := (dispOp c s).txlen
        out := s.out ++ (List.range c.nThr).map (route c s) } :=
  foldl_sendThruster c _ s

/-- An operation leaves `OUT` as it is or appends to it (R30). -/
theorem operationOf_out (c : Cfg) (i : Instr) (s : State) : ∃ rs, (operationOf c i s).out = s.out ++ rs := by
  cases i with
  | disp => exact ⟨_, congrArg State.out (dispOp_eq c s)⟩
  | dth k =>
    rcases dthOp_cases c k s with ⟨-, h⟩ | ⟨-, h⟩
    · exact ⟨[], by simp [operationOf, h]⟩
    · exact ⟨[route c s k.toNat], by simp [operationOf, h, sendThruster]⟩
  | crc => exact ⟨[], by rcases crcOp_cases c s with ⟨-, h⟩ | ⟨-, h⟩ <;> simp [operationOf, h]⟩
  | dec =>
    obtain ⟨_, _, _, _, _, _, h⟩ := decOp_eq_setDecoded c s
    exact ⟨[], by simp [operationOf, h]⟩
  | mix => exact ⟨[], by simp [operationOf, mixOp]⟩
  | esd | esdr _ | esc | escb | egv =>
    exact ⟨[], by simp [operationOf, esdOp, esdrOp, escOp, escbOp, egvOp, buildFrame]⟩
  | setDuty _ | setDutyRouted _ _ | setCurrent _ | setCurrentBrake _ | getValues =>
    exact ⟨[], by simp [operationOf, acceptPayload]⟩

/-! ## What a step can do -/

/-- A command word is discarded, runs its instruction, or takes ILLOP. -/
theorem issueCommand_cases {w : Word16} {s t : State} (h : issueCommand w s = .next t) :
    t = s ∨ (∃ i, t = operationOf Config.cfg i s) ∨ t = s.takeFault .illop w := by
  by_cases he : s.err = 0
  · rw [issueCommand_of_running w he] at h
    cases hd : decodeCommand w with
    | ok i =>
      rw [hd] at h
      exact .inr (.inl ⟨i, by simpa [exec_of_running i he] using h.symm⟩)
    | error e =>
      rw [hd] at h
      exact .inr (.inr (by simpa using h.symm))
  · rw [issueCommand_of_halted w he] at h
    exact .inl (by simpa using h.symm)

/-- What a step can do: an idle block keeps its state; else the oldest host action a is used up, which leaves u, and a
acts on u. -/
theorem step_cases {s t : State} (h : step s = .next t) :
    (s.hostStream = [] ∧ t = s) ∨
      ∃ a rest u, s.hostStream = a :: rest ∧ u = s.setStream rest ∧
        (t = u ∨ (∃ i, t = operationOf Config.cfg i u) ∨ (∃ w, t = u.takeFault .illop w) ∨
          (∃ r v, r.present Config.cfg = true ∧ t = u.hostWrite r v) ∨
          (a = .reset ∧ t = u.resetBlock Config.cfg)) := by
  cases hs : s.hostStream with
  | nil =>
    rw [step_of_idle hs] at h
    exact .inl ⟨rfl, by simpa using h.symm⟩
  | cons a rest =>
    rw [step_of_stream hs] at h
    refine .inr ⟨a, rest, s.setStream rest, rfl, rfl, ?_⟩
    rcases performAction_cases h with ⟨w, -, hw⟩ | ⟨r, v, -, hr, ht⟩ | ⟨r, -, -, ht⟩ | ⟨ha, ht⟩
    · rcases issueCommand_cases hw with ht | hi | ht
      · exact .inl ht
      · exact .inr (.inl hi)
      · exact .inr (.inr (.inl ⟨w, ht⟩))
    · exact .inr (.inr (.inr (.inl ⟨r, v, hr, ht⟩)))
    · exact .inl ht
    · exact .inr (.inr (.inr (.inr ⟨ha, ht⟩)))

/-- The step of a pending host write to a location that the build has. -/
theorem step_of_write {s : State} {r : HostReg} {v : Word64} {rest : List HostAction}
    (h : s.hostStream = .write r v :: rest) (hr : r.present Config.cfg = true) :
    step s = .next ((s.setStream rest).hostWrite r v) := by
  rw [step_of_stream h, performAction, if_pos hr]

/-- The step of a pending host read of a location that the build has. -/
theorem step_of_read {s : State} {r : HostReg} {rest : List HostAction}
    (h : s.hostStream = .read r :: rest) (hr : r.present Config.cfg = true) :
    step s = .next (s.setStream rest) := by
  rw [step_of_stream h, performAction, if_pos hr]

/-- A host write does not reach `OUT`. -/
@[simp] theorem State.hostWrite_out (s : State) (r : HostReg) (v : Word64) : (s.hostWrite r v).out = s.out := by
  rcases hostWrite_cases s r v with ⟨x, h⟩ | ⟨x, h⟩ | ⟨o, x, -, h⟩ | ⟨x, h⟩ | h <;> simp [h]

/-- An instruction of a sequence, on a running block. -/
theorem runInstrs_cons_of_running (i : Instr) (is : List Instr) {s : State} (h : s.err = 0) :
    runInstrs (i :: is) s = runInstrs is (operationOf Config.cfg i s) := by
  rw [runInstrs_cons, whenRunning_of_running h]

/-! ## Each update of the state keeps the invariant of R38 -/

section
variable {c : Cfg} {s : State}

theorem State.Inv.setSp (h : s.Inv c) (v : Word64) : (s.setSp v).Inv c := { h with }

theorem State.Inv.setVal (h : s.Inv c) (v : Word32) : (s.setVal v).Inv c := { h with }

theorem State.Inv.setRxlen (h : s.Inv c) (n : Word16) : (s.setRxlen n).Inv c := { h with }

theorem State.Inv.setCrcr (h : s.Inv c) (x : Word16) : (s.setCrcr x).Inv c := { h with }

theorem State.Inv.setStream (h : s.Inv c) (l : List HostAction) : (s.setStream l).Inv c := { h with }

theorem State.Inv.setRxByte (h : s.Inv c) {o : Nat} (ho : o < rxFrameMax) (b : Byte) : (s.setRxByte o b).Inv c :=
  { h with
    rxbuf_wf := Memory.wf_write h.rxbuf_wf o b
    rxbuf_within := Memory.within_write h.rxbuf_within ho b }

theorem State.Inv.setTh (h : s.Inv c) {ts : List Word32} (hlen : ts.length = c.nThr)
    (hbound : ∀ x ∈ ts, -(c.maxDutyU : Int) ≤ x.toInt ∧ x.toInt ≤ (c.maxDutyU : Int)) : (s.setTh ts).Inv c :=
  { h with th_count := hlen, th_bound := hbound }

/-- The three lengths are those of the frames of `PayGetValues`, of a value payload and of a routed one (R118). -/
theorem State.Inv.storeFrame (h : s.Inv c) {f : List Byte} (hf : f.length = 6 ∨ f.length = 10 ∨ f.length = 12) :
    (s.storeFrame f).Inv c :=
  { h with
    txlen_legal := by rcases hf with hf | hf | hf <;> simp [hf]
    txbuf_wf := Memory.wf_writeRange h.txbuf_wf 0 f
    txbuf_within := Memory.within_writeRange h.txbuf_within (by rw [txFrameMax]; omega) }

theorem State.Inv.emit (h : s.Inv c) {r : OutRecord} (hr : r.legal) : (s.emit r).Inv c :=
  { h with
    out_legal := fun x hx => by
      rcases List.mem_append.mp hx with hx | hx
      · exact h.out_legal x hx
      · exact List.mem_singleton.mp hx ▸ hr }

theorem FrameStatus.code_le (st : FrameStatus) : st.code.toNat ≤ 7 := by cases st <;> decide

theorem State.Inv.setDecoded (h : s.Inv c) {st : FrameStatus} {cmd plen : Byte} {kd : PayloadKind} {node : Byte}
    {v : Word32} (hclear : st ≠ .ok → cmd = 0 ∧ plen = 0 ∧ kd = .raw ∧ node = 0 ∧ v = 0) :
    (s.setDecoded st cmd plen kd node v).Inv c :=
  { h with
    rxst_legal := st.code_le
    results_clear := fun hst => by
      obtain ⟨hcmd, hplen, hkd, hnode, hv⟩ := hclear fun hok => hst (by rw [hok]; rfl)
      exact ⟨hcmd, hplen, by rw [hkd]; rfl, hnode, hv⟩ }

theorem FaultCode.code_ne_zero (f : FaultCode) : f.code ≠ 0 := by cases f <;> decide

theorem FaultCode.code_le (f : FaultCode) : f.code.toNat ≤ 3 := by cases f <;> decide

theorem State.Inv.takeFault (h : s.Inv c) (f : FaultCode) (w : Word16) : (s.takeFault f w).Inv c :=
  { h with
    err_legal := f.code_le
    errinfo_clear := fun he => absurd he f.code_ne_zero }

/-- R37, R38: the reset values meet the invariant. -/
theorem State.Inv.resetOf (c : Cfg) : (State.resetOf c).Inv c where
  th_count := by simp
  th_bound := fun x hx => by simp [List.eq_of_mem_replicate hx]
  txlen_legal := .inl rfl
  rxst_legal := by simp
  results_clear := fun _ => ⟨rfl, rfl, rfl, rfl, rfl⟩
  err_legal := by simp
  errinfo_clear := fun _ => rfl
  out_legal := by simp
  txbuf_wf := Memory.wf_nil
  txbuf_within := by simp
  rxbuf_wf := Memory.wf_nil
  rxbuf_within := by simp

/-! ## Each operation and each host action keeps it -/

/-- R97: what MIX writes is inside the ceiling, which fits into 32 bits (R9). -/
theorem mix_bound (hc : c.wf) (a : Fin 6 → Int) :
    ∀ x ∈ (mix c a).map tc32, -(c.maxDutyU : Int) ≤ x.toInt ∧ x.toInt ≤ (c.maxDutyU : Int) := by
  intro x hx
  simp only [mix, List.map_map, List.mem_map, Function.comp_apply] at hx
  obtain ⟨lane, -, rfl⟩ := hx
  obtain ⟨-, -, hmax, -, -⟩ := hc
  have hm : -(c.maxDutyU : Int) ≤ mixLane c a lane ∧ mixLane c a lane ≤ (c.maxDutyU : Int) := clamp_mem (by omega)
  rwa [toInt_tc32 (by omega) (by omega)]

/-- R160, R161: every record of the router is legal. -/
theorem route_legal (c : Cfg) (s : State) (i : Nat) : (route c s i).legal := by
  cases i with
  | zero => exact .inl ⟨rfl, rfl, by simp [route]⟩
  | succ i => exact .inr ⟨rfl, by simp [route]⟩

theorem State.Inv.sendThruster (h : s.Inv c) (i : Nat) : (sendThruster c s i).Inv c := by
  have hlen : (route c s i).bytes.length = 10 ∨ (route c s i).bytes.length = 12 := by
    rcases route_legal c s i with ⟨-, -, hl⟩ | ⟨-, hl⟩
    · exact .inl hl
    · exact .inr hl
  exact (h.storeFrame (.inr hlen)).emit (route_legal c s i)

theorem State.Inv.dispOp (h : s.Inv c) : (dispOp c s).Inv c :=
  List.foldlRecOn (motive := State.Inv c) _ _ h fun _ hu i _ => hu.sendThruster i

theorem State.Inv.dthOp (h : s.Inv c) (i : Byte) : (dthOp c i s).Inv c := by
  rcases dthOp_cases c i s with ⟨-, hi⟩ | ⟨-, hi⟩ <;> rw [hi]
  · exact h.takeFault _ _
  · exact h.sendThruster _

theorem State.Inv.crcOp (h : s.Inv c) : (crcOp c s).Inv c := by
  rcases crcOp_cases c s with ⟨-, hs⟩ | ⟨-, hs⟩ <;> rw [hs]
  · exact h.takeFault _ _
  · exact h.setCrcr _

theorem State.Inv.acceptPayload (h : s.Inv c) (p : List Byte) : (acceptPayload c p s).Inv c :=
  h.setDecoded fun hne => absurd rfl hne

theorem State.Inv.rejectFrame (h : s.Inv c) (st : FrameStatus) : (rejectFrame st s).Inv c :=
  h.setDecoded fun _ => ⟨rfl, rfl, rfl, rfl, rfl⟩

theorem State.Inv.decOp (h : s.Inv c) : (decOp c s).Inv c := by
  rcases decOp_cases c s with ⟨p, -, hs⟩ | ⟨st, -, hs⟩ <;> rw [hs]
  · exact h.acceptPayload p
  · exact h.rejectFrame st

/-- R38: every operation keeps the invariant. -/
theorem State.Inv.operationOf (hc : c.wf) (h : s.Inv c) (i : Instr) : (operationOf c i s).Inv c := by
  cases i with
  | mix => exact h.setTh (by simp) (mix_bound hc _)
  | disp => exact h.dispOp
  | dth k => exact h.dthOp k
  | esd | esc | escb => exact h.storeFrame (.inr (.inl (by simp)))
  | esdr n => exact h.storeFrame (.inr (.inr (by simp)))
  | egv => exact h.storeFrame (.inl (by simp))
  | crc => exact h.crcOp
  | dec => exact h.decOp
  | setDuty _ | setDutyRouted _ _ | setCurrent _ | setCurrentBrake _ | getValues => exact h.acceptPayload _

/-- R36: a host write to a location that exists keeps the invariant. -/
theorem State.Inv.hostWrite (h : s.Inv c) {r : HostReg} (hr : r.present c = true) (v : Word64) :
    (s.hostWrite r v).Inv c := by
  rcases hostWrite_cases s r v with ⟨x, hw⟩ | ⟨x, hw⟩ | ⟨o, x, rfl, hw⟩ | ⟨x, hw⟩ | hw <;> rw [hw]
  · exact h.setSp x
  · exact h.setVal x
  · exact h.setRxByte (by simpa [HostReg.present] using hr) x
  · exact h.setRxlen x
  · exact h

end

/-- Settles O10: each thing a step can do keeps the invariant. -/
theorem stepKeepsInvariant : Obligations.StepKeepsInvariant := by
  intro s t h hstep
  rcases step_cases hstep with ⟨-, rfl⟩ | ⟨a, rest, u, -, rfl, ht⟩
  · exact h
  · have hu := h.setStream rest
    rcases ht with rfl | ⟨i, rfl⟩ | ⟨w, rfl⟩ | ⟨r, v, hr, rfl⟩ | ⟨-, rfl⟩
    · exact hu
    · exact hu.operationOf Config.cfg_wf i
    · exact hu.takeFault .illop w
    · exact hu.hostWrite hr v
    · exact (State.Inv.resetOf Config.cfg).setStream _

/-- Settles O11. -/
theorem resetHasInvariant : Obligations.ResetHasInvariant := State.Inv.resetOf Config.cfg

/-! ## The output history and the writers of each register -/

/-- Settles O9: of what a step can do, only operations reach `OUT`, and they append. -/
theorem outputHistoryOnlyGrows : Obligations.OutputHistoryOnlyGrows := by
  intro s t hstep hreset
  rcases step_cases hstep with ⟨-, rfl⟩ | ⟨a, rest, u, hs, rfl, ht⟩
  · exact ⟨[], by simp⟩
  · rcases ht with rfl | ⟨i, rfl⟩ | ⟨w, rfl⟩ | ⟨r, v, -, rfl⟩ | ⟨rfl, -⟩
    · exact ⟨[], by simp⟩
    · exact operationOf_out Config.cfg i (s.setStream rest)
    · exact ⟨[], by simp⟩
    · exact ⟨[], by simp⟩
    · exact absurd hs (hreset rest)

/-- Settles O42, operation by operation; a halted block changes nothing. -/
theorem eachRegisterHasItsWriters : Obligations.EachRegisterHasItsWriters := by
  intro i s t h
  by_cases he : s.err = 0
  · rw [exec_of_running i he] at h
    injection h with h
    subst h
    cases i with
    | mix => simp [operationOf, mixOp]
    | disp =>
      rw [operationOf, dispOp_eq]
      simp
    | dth k => rcases dthOp_cases Config.cfg k s with ⟨-, h⟩ | ⟨-, h⟩ <;> simp [operationOf, h, sendThruster]
    | crc => rcases crcOp_cases Config.cfg s with ⟨-, h⟩ | ⟨-, h⟩ <;> simp [operationOf, h]
    | dec =>
      obtain ⟨_, _, _, _, _, _, h⟩ := decOp_eq_setDecoded Config.cfg s
      simp [operationOf, h]
    | esd | esdr _ | esc | escb | egv =>
      simp [operationOf, esdOp, esdrOp, escOp, escbOp, egvOp, buildFrame]
    | setDuty _ | setDutyRouted _ _ | setCurrent _ | setCurrentBrake _ | getValues =>
      simp [operationOf, acceptPayload]
  · rw [exec_eq, whenRunning_of_halted he] at h
    injection h with h
    subst h
    simp

/-! ## Stale bytes of `TXBUF` -/

/-- Two spaces that agree on a range give the same run of bytes. -/
theorem Memory.readRange_congr {m m' : Memory} {o n : Nat} (h : ∀ j, j < n → m.read (o + j) = m'.read (o + j)) :
    m.readRange o n = m'.readRange o n :=
  List.map_congr_left fun j hj => h j (List.mem_range.mp hj)

/-- A run of bytes without its first k is the run that begins k bytes later. -/
theorem Memory.drop_readRange (m : Memory) (o k n : Nat) :
    (m.readRange o (k + n)).drop k = m.readRange (o + k) n := by
  refine List.ext_getElem (by simp) fun j h1 h2 => ?_
  rw [List.getElem_drop, Memory.getElem_readRange, Memory.getElem_readRange, Nat.add_assoc]

/-- R115: the checksum and STOP end a frame. -/
theorem drop_frame (c : Cfg) (p : List Byte) :
    (frame c p).drop (p.length + 2) = [highByte (crc16 c p), lowByte (crc16 c p), c.stopByte] :=
  List.drop_left' (by simp)

/-- Settles O23: EGV stores 6 bytes over the 12 of ESDR, so those from 6 on stay. -/
theorem shorterFrameLeavesStaleBytes : Obligations.ShorterFrameLeavesStaleBytes := by
  intro s n he hw
  have hstored := (storeFrame_spec hw (frame Config.cfg (payDutyRouted Config.cfg n s.val))).1
  set t := esdrOp Config.cfg n s
  have hstale : ∀ o, 6 ≤ o → (egvOp Config.cfg t).txbuf.read o = t.txbuf.read o := fun o ho =>
    (storeFrame_spec (Memory.wf_writeRange hw 0 _) (frame Config.cfg (payGetValues Config.cfg))).2 o (by simpa using ho)
  have hrange : ∀ o k, 6 ≤ o → (egvOp Config.cfg t).txbuf.readRange o k = t.txbuf.readRange o k := fun o k ho =>
    Memory.readRange_congr fun j _ => hstale _ (by omega)
  refine ⟨t, egvOp Config.cfg t, ?_, ?_, rfl, hrange 6 6 le_rfl, ?_⟩
  · exact runInstrs_cons_of_running (.esdr n) [] he
  · exact (runInstrs_cons_of_running (.esdr n) [.egv] he).trans (runInstrs_cons_of_running (s := t) .egv [] he)
  · calc (egvOp Config.cfg t).txbuf.readRange 9 3
        = (t.txbuf.readRange 0 12).drop 9 := by rw [hrange 9 3 (by omega), Memory.drop_readRange _ 0 9 3]
      _ = (frame Config.cfg (payDutyRouted Config.cfg n s.val)).drop 9 := congrArg (List.drop 9) hstored
      _ = _ := drop_frame Config.cfg (payDutyRouted Config.cfg n s.val)

/-! ## Host reads and writes -/

/-- A byte field of `SP` in numbers (R21). -/
theorem toNat_spField (sp : Word64) (j : Fin 8) : (spField sp j).toNat = sp.toNat / 2 ^ (8 * j.val) % 256 := by
  rw [spField, BitVec.extractLsb'_toNat, Nat.shiftRight_eq_div_pow]

/-- Settles O43. -/
theorem setpointWritesReachTheirFields : Obligations.SetpointWritesReachTheirFields := by
  intro s v rest
  refine ⟨fun k hs => ⟨_, step_of_write hs rfl, ?_, fun j hj => ?_, rfl⟩, fun hs => step_of_write hs rfl⟩
  · rw [State.hostWrite, State.setSp_sp, axes, axisByte, spField_setSpField, if_pos rfl,
      BitVec.setWidth_eq_extractLsb' (by decide)]
  · have hne : j ≠ ⟨k.val, by omega⟩ := fun h => hj (congrArg Fin.val h)
    rw [State.hostWrite, State.setSp_sp, spField_setSpField, if_neg hne, State.setStream_sp]

/-- R57: a read delivers no more bits than the register has. -/
theorem toNat_hostRead_lt (s : State) (r : HostReg) : (s.hostRead r).toNat < 2 ^ regWidth r := by
  cases r <;> simp only [State.hostRead, regWidth, BitVec.toNat_setWidth] <;> omega

/-- A value cut to n bits and read on the 64 bits of a host access. -/
theorem toNat_setWidth_setWidth (v : Word64) {n : Nat} (hn : n ≤ 64) :
    ((v.setWidth n).setWidth 64).toNat = v.toNat % 2 ^ n := by
  rw [BitVec.toNat_setWidth_of_le hn, BitVec.toNat_setWidth]

/-- A writable register reads back the low bits of the written value that its width has (R57). -/
theorem toNat_hostRead_hostWrite {s : State} {r : HostReg} (v : Word64) (hw : s.rxbuf.wf)
    (hr : r ∈ [HostReg.sp, .val, .rxlen] ∨ (∃ j, r = .spField j) ∨ (∃ k, r = .ax k) ∨ ∃ o, r = .rxbuf o) :
    ((s.hostWrite r v).hostRead r).toNat = v.toNat % 2 ^ regWidth r := by
  rcases hr with hr | ⟨j, rfl⟩ | ⟨k, rfl⟩ | ⟨o, rfl⟩
  · simp only [List.mem_cons, List.not_mem_nil, or_false] at hr
    rcases hr with rfl | rfl | rfl
    · exact (Nat.mod_eq_of_lt v.isLt).symm
    · exact toNat_setWidth_setWidth v (by decide)
    · exact toNat_setWidth_setWidth v (by decide)
  · rw [State.hostWrite, State.hostRead, State.setSp_sp, spField_setSpField, if_pos rfl]
    exact toNat_setWidth_setWidth v (by decide)
  · rw [State.hostWrite, State.hostRead, State.setSp_sp, axisByte, spField_setSpField, if_pos rfl]
    exact toNat_setWidth_setWidth v (by decide)
  · rw [State.hostWrite, State.hostRead, State.setRxByte_rxbuf, Memory.read_write hw, if_pos rfl]
    exact toNat_setWidth_setWidth v (by decide)

/-- Settles O45. -/
theorem hostReadsBackWhatItWrote : Obligations.HostReadsBackWhatItWrote := by
  refine ⟨fun s r v hw hr => toNat_hostRead_hostWrite v hw ?_, toNat_hostRead_lt, fun s => ?_, fun s j => ?_,
    fun s k => ?_, fun s o => ?_, fun s i x hx => ?_⟩
  · rcases hr with hr | hr | hr | ⟨o, hr, -⟩
    exacts [.inl hr, .inr (.inl hr), .inr (.inr (.inl hr)), .inr (.inr (.inr ⟨o, hr⟩))]
  · refine ⟨rfl, ?_, ?_, ?_, ?_, ?_, ?_, ?_, ?_, ?_, ?_, ?_, ?_⟩ <;> exact BitVec.toNat_setWidth_of_le (by decide)
  · rw [State.hostRead, BitVec.toNat_setWidth_of_le (by decide), toNat_spField]
  · rw [State.hostRead, axisByte, BitVec.toNat_setWidth_of_le (by decide), toNat_spField]
  · exact ⟨BitVec.toNat_setWidth_of_le (by decide), BitVec.toNat_setWidth_of_le (by decide)⟩
  · rw [State.hostRead, State.thrust, List.getD_eq_getElem?_getD, hx, Option.getD_some,
      BitVec.toNat_setWidth_of_le (by decide)]

/-- Settles O8. -/
theorem idleBlockAndHostReadsChangeNothing : Obligations.IdleBlockAndHostReadsChangeNothing :=
  fun _ => ⟨step_of_idle, fun _ _ hs hr => step_of_read hs hr⟩

/-- R36: the registers without "w" in the table, the locations of `TH` and `TXBUF` among them, ignore a host write. -/
theorem hostWrite_of_readOnly {r : HostReg} (s : State) (v : Word64)
    (hr : (∃ i, r = .th i) ∨ (∃ o, r = .txbuf o) ∨
      r ∈ [HostReg.txlen, .rxst, .rxcmd, .rxplen, .rxkind, .rxnode, .rxval, .crcr, .err, .errinfo]) :
    s.hostWrite r v = s := by
  cases r with
  | sp | spField _ | ax _ | val | rxbuf _ | rxlen => simp at hr
  | _ => rfl

/-- Settles O44. -/
theorem readOnlyRegistersIgnoreWrites : Obligations.ReadOnlyRegistersIgnoreWrites := by
  intro s r v rest hr hs
  have hpresent : r.present Config.cfg = true := by
    rcases hr with ⟨i, rfl, hi⟩ | ⟨o, rfl, ho⟩ | hr
    · exact decide_eq_true hi
    · exact decide_eq_true ho
    · clear hs
      revert r
      simp [HostReg.present]
  rw [step_of_write hs hpresent, hostWrite_of_readOnly]
  · rfl
  · rcases hr with ⟨i, hi, -⟩ | ⟨o, ho, -⟩ | hr
    exacts [.inl ⟨i, hi⟩, .inr (.inl ⟨o, ho⟩), .inr (.inr hr)]

/-- Settles O50. -/
theorem valueAndLengthWritesStoreTheirValue : Obligations.ValueAndLengthWritesStoreTheirValue := by
  intro s v rest
  exact ⟨fun hs => ⟨_, step_of_write hs rfl, BitVec.toNat_setWidth .., rfl⟩,
    fun hs => ⟨_, step_of_write hs rfl, BitVec.toNat_setWidth .., rfl⟩⟩

end Sys2Proof.Machine
end

section
/-! PROOFS. The memory and access-port rules (spec/20_memory.md): the byte export and import of `SP` (R53, R54), and
host accesses to locations that the build does not have (R50, notes/assumptions/6.md). -/

namespace Sys2Proof.Machine

/-! ## The byte export of `SP` -/

@[simp] theorem length_toBytes (sp : Word64) : (toBytes sp).length = 8 := by simp [toBytes]

/-- R53: byte j of the export is field j. -/
theorem getElem_toBytes (sp : Word64) {j : Nat} (hj : j < (toBytes sp).length) :
    (toBytes sp)[j] = spField sp ⟨j, by simpa using hj⟩ := by
  simp [toBytes]

/-- `SP` is its eight byte fields: bit i is bit i mod 8 of field i / 8. -/
theorem eq_of_spField_eq {v w : Word64} (h : ∀ j, spField v j = spField w j) : v = w := by
  refine BitVec.eq_of_getLsbD_eq fun i hi => ?_
  have hbit := congrArg (fun x => x.getLsbD (i % 8)) (h ⟨i / 8, by omega⟩)
  have hlt : i % 8 < 8 := Nat.mod_lt i (by decide)
  simpa [spField, BitVec.getLsbD_extractLsb', hlt, Nat.div_add_mod] using hbit

/-- The export loses nothing. -/
theorem toBytes_injective : Function.Injective toBytes := by
  intro v w h
  exact eq_of_spField_eq fun j => List.map_inj_left.mp h j (List.mem_finRange j)

/-! ## The import -/

/-- Bytes are digits to the base 256. -/
theorem lt_of_mem_map_toNat {b : List Byte} : ∀ d ∈ b.map BitVec.toNat, d < 256 := by
  intro d hd
  obtain ⟨x, -, rfl⟩ := List.mem_map.mp hd
  exact x.isLt

/-- R54: the import of up to eight bytes is the number whose digits to the base 256 they are, lowest first. -/
theorem toNat_fromBytes {b : List Byte} (h : b.length ≤ 8) :
    (fromBytes b).toNat = Nat.ofDigits 256 (b.map BitVec.toNat) := by
  induction b with
  | nil => rfl
  | cons x b ih =>
    rw [List.length_cons] at h
    have hlt : Nat.ofDigits 256 (b.map BitVec.toNat) < 256 ^ 7 :=
      calc Nat.ofDigits 256 (b.map BitVec.toNat)
          < 256 ^ (b.map BitVec.toNat).length := Nat.ofDigits_lt_base_pow_length (by decide) lt_of_mem_map_toNat
        _ ≤ 256 ^ 7 := Nat.pow_le_pow_right (by decide) (by rw [List.length_map]; omega)
    rw [fromBytes, BitVec.toNat_add, BitVec.toNat_shiftLeft, ih (by omega), BitVec.toNat_setWidth_of_le (by decide),
      List.map_cons, Nat.ofDigits_cons, Nat.shiftLeft_eq]
    omega

/-- The digits of the import, written as the sum of R54. -/
theorem ofDigits_map_toNat (b : List Byte) :
    Nat.ofDigits 256 (b.map BitVec.toNat) =
      ((List.range b.length).map fun j => (b.getD j 0).toNat * 2 ^ (8 * j)).sum := by
  rw [Nat.ofDigits_eq_sum_mapIdx]
  congr 1
  refine List.ext_getElem (by simp) fun j h1 h2 => ?_
  have hj : j < b.length := by simpa using h2
  simp [hj, Nat.pow_mul]

/-- R53, R54: field j of an import is byte j. -/
theorem spField_fromBytes {b : List Byte} (h : b.length = 8) (j : Fin 8) : spField (fromBytes b) j = b[j.val] := by
  refine BitVec.eq_of_toNat_eq ?_
  have hdrop : b.drop j.val = b[j.val] :: b.drop (j.val + 1) := List.drop_eq_getElem_cons (by omega)
  calc (spField (fromBytes b) j).toNat
      = Nat.ofDigits 256 (b.map BitVec.toNat) / 256 ^ j.val % 256 := by
        rw [toNat_spField, toNat_fromBytes h.le, Nat.pow_mul]
    _ = Nat.ofDigits 256 ((b.drop j.val).map BitVec.toNat) % 256 := by
        rw [Nat.ofDigits_div_pow_eq_ofDigits_drop j.val (by decide) _ lt_of_mem_map_toNat, List.map_drop]
    _ = b[j.val].toNat := by
        rw [hdrop, List.map_cons, Nat.ofDigits_cons, Nat.add_mul_mod_self_left, Nat.mod_eq_of_lt b[j.val].isLt]

/-- R54: exporting an import gives the bytes back. -/
theorem toBytes_fromBytes {b : List Byte} (h : b.length = 8) : toBytes (fromBytes b) = b := by
  refine List.ext_getElem (by simp [h]) fun j h1 h2 => ?_
  rw [getElem_toBytes, spField_fromBytes h]

/-- R54: importing an export gives the value back, as the two have the same export. -/
theorem fromBytes_toBytes (v : Word64) : fromBytes (toBytes v) = v :=
  toBytes_injective (toBytes_fromBytes (length_toBytes v))

/-- Settles O48. -/
theorem setpointBytesRoundTrip : Obligations.SetpointBytesRoundTrip := by
  refine ⟨fun v => ⟨length_toBytes v, fun j => ?_⟩, fun b hb => ?_, fromBytes_toBytes, fun b => toBytes_fromBytes⟩
  · rw [List.getElem?_eq_getElem (by simp), getElem_toBytes, spField]
  · rw [toNat_fromBytes hb.le, ofDigits_map_toNat, hb]

/-! ## Host accesses to locations that do not exist -/

section
variable {s : State} {r : HostReg} {rest : List HostAction}

/-- The step of a pending host write to a location that the build does not have. -/
theorem step_of_write_missing {v : Word64} (h : s.hostStream = .write r v :: rest)
    (hr : r.present Config.cfg = false) : step s = .fault (.noSuchLocation r) := by
  simp [step_of_stream h, performAction, hr]

/-- The step of a pending host read of a location that the build does not have. -/
theorem step_of_read_missing (h : s.hostStream = .read r :: rest) (hr : r.present Config.cfg = false) :
    step s = .fault (.noSuchLocation r) := by
  simp [step_of_stream h, performAction, hr]

end

/-- R28: the step of a pending host write to a byte of `RXBUF` stores the byte and changes no other one. -/
theorem step_of_write_rxbuf {s : State} {o : Nat} {v : Word64} {rest : List HostAction}
    (h : s.hostStream = .write (.rxbuf o) v :: rest) (ho : o < rxFrameMax) (hw : s.rxbuf.wf) :
    ∃ t, step s = .next t ∧ t.rxbuf.read o = v.extractLsb' 0 8 ∧
      (∀ x, x ≠ o → t.rxbuf.read x = s.rxbuf.read x) ∧ t = { s with rxbuf := t.rxbuf, hostStream := rest } := by
  refine ⟨_, step_of_write h (decide_eq_true ho), ?_, fun x hx => ?_, rfl⟩ <;>
    rw [State.hostWrite, State.setRxByte_rxbuf, State.setStream_rxbuf, Memory.read_write hw]
  · rw [if_pos rfl, BitVec.setWidth_eq_extractLsb' (by decide)]
  · rw [if_neg hx.symm]

/-- Settles O47: the three bounds are where `present` ends. -/
theorem missingLocationsFault : Obligations.MissingLocationsFault := by
  intro s o v rest
  have hrx : 260 ≤ o → (HostReg.rxbuf o).present Config.cfg = false := fun h => decide_eq_false h.not_gt
  have htx : 21 ≤ o → (HostReg.txbuf o).present Config.cfg = false := fun h => decide_eq_false h.not_gt
  have hth : Config.cfg.nThr ≤ o → (HostReg.th o).present Config.cfg = false := fun h => decide_eq_false h.not_gt
  exact ⟨fun hs ho => step_of_write_missing hs (hrx ho), fun hs ho => step_of_read_missing hs (hrx ho),
    fun hs ho => step_of_write_missing hs (htx ho), fun hs ho => step_of_read_missing hs (htx ho),
    fun hs ho => step_of_write_missing hs (hth ho), fun hs ho => step_of_read_missing hs (hth ho),
    fun hs ho => step_of_write_rxbuf hs (Nat.lt_succ_of_le ho)⟩

end Sys2Proof.Machine
end

section
/-! PROOFS. The encodings (spec/30_encoding.md): the command words of R70 to R74 and the payloads of R76, read back and
written; the wire layout of R75; the host actions of R81; and what the command port runs. -/

namespace Sys2Proof.Machine

/-! ## The two fields of a command word -/

theorem commandOp_commandWord (op arg : Byte) : commandOp (commandWord op arg) = op :=
  BitVec.extractLsb'_append_eq_right

theorem commandArg_commandWord (op arg : Byte) : commandArg (commandWord op arg) = arg :=
  BitVec.extractLsb'_append_eq_left

/-- R70: a word is its `ARG` above its `OP`. -/
theorem commandWord_commandOp_commandArg (w : Word16) : commandWord (commandOp w) (commandArg w) = w :=
  highByte_append_lowByte w

theorem eq_of_fields_eq {v w : Word16} (hop : commandOp v = commandOp w) (harg : commandArg v = commandArg w) :
    v = w := by
  rw [← commandWord_commandOp_commandArg v, hop, harg, commandWord_commandOp_commandArg]

theorem commandOp_and (v w : Word16) : commandOp (v &&& w) = commandOp v &&& commandOp w := BitVec.extractLsb'_and

theorem commandArg_and (v w : Word16) : commandArg (v &&& w) = commandArg v &&& commandArg w :=
  BitVec.extractLsb'_and

theorem toNat_commandOp (w : Word16) : (commandOp w).toNat = w.toNat % 256 := by
  rw [commandOp, BitVec.extractLsb'_toNat, Nat.shiftRight_zero]

theorem toNat_commandArg (w : Word16) : (commandArg w).toNat = w.toNat / 256 := by
  rw [commandArg, BitVec.extractLsb'_toNat, Nat.shiftRight_eq_div_pow]
  omega

/-! ## The table of R73 -/

/-- Every row fixes the whole `OP`, and fixes `ARG` at 0 where it fixes it (R71). -/
theorem row_fixes_op : ∀ r ∈ commandTable, commandOp r.mask = 0xFF ∧ commandArg r.pattern = 0 := by decide

/-- The operation codes are pairwise different. -/
theorem ops_nodup : (commandTable.map fun r => commandOp r.pattern).Nodup := by decide

section
variable {r : CommandRow} {w : Word16}

/-- R71, R73: a word selects a row when its `OP` is the row's and its `ARG` is 0 in the bits that the row fixes. -/
theorem selects_iff (hr : r ∈ commandTable) :
    r.selects w = true ↔ commandOp w = commandOp r.pattern ∧ commandArg w &&& commandArg r.mask = 0 := by
  obtain ⟨hmask, hpattern⟩ := row_fixes_op r hr
  have hop : commandOp (w &&& r.mask) = commandOp w := by
    rw [commandOp_and, hmask]
    exact BitVec.and_allOnes
  rw [CommandRow.selects, beq_iff_eq, ← hop, ← hpattern, ← commandArg_and]
  exact ⟨fun h => h ▸ ⟨rfl, rfl⟩, fun ⟨h1, h2⟩ => eq_of_fields_eq h1 h2⟩

/-- R74: a word selects at most one row, as the rows of the table differ in their operation codes. -/
theorem selects_unique (hr : r ∈ commandTable) (hw : r.selects w = true) {r' : CommandRow} (hr' : r' ∈ commandTable)
    (hw' : r'.selects w = true) : r = r' :=
  List.inj_on_of_nodup_map ops_nodup hr hr' (((selects_iff hr).mp hw).1.symm.trans ((selects_iff hr').mp hw').1)

/-- What the decoder's search finds is a row that the word selects. -/
theorem selects_of_find? (hf : commandTable.find? (·.selects w) = some r) : r ∈ commandTable ∧ r.selects w = true :=
  ⟨List.mem_of_find?_eq_some hf, List.find?_some (p := (CommandRow.selects · w)) hf⟩

/-- A word that selects a row decodes to the row's operation on its `ARG`. -/
theorem decodeCommand_of_selects (hr : r ∈ commandTable) (hw : r.selects w = true) :
    decodeCommand w = .ok (r.operation (commandArg w)) := by
  rw [decodeCommand]
  cases hf : commandTable.find? (·.selects w) with
  | none => exact absurd hw (List.find?_eq_none.mp hf r hr)
  | some r' =>
    obtain ⟨hr', hw'⟩ := selects_of_find? hf
    rw [selects_unique hr hw hr' hw']

/-- A word that decodes to an instruction selects a row whose operation it is. -/
theorem selects_of_decodeCommand {i : Instr} (h : decodeCommand w = .ok i) :
    ∃ r ∈ commandTable, r.selects w = true ∧ i = r.operation (commandArg w) := by
  rw [decodeCommand] at h
  cases hf : commandTable.find? (·.selects w) with
  | none =>
    rw [hf] at h
    dsimp only at h
    split at h <;> cases h
  | some r =>
    rw [hf] at h
    obtain ⟨hr, hw⟩ := selects_of_find? hf
    exact ⟨r, hr, hw, (Except.ok.inj h).symm⟩

end

/-- R74: a word that selects no row is illegal. -/
theorem decodeCommand_of_selects_none {w : Word16} (h : ∀ r ∈ commandTable, r.selects w = false) :
    ∃ e, decodeCommand w = .error e := by
  cases hd : decodeCommand w with
  | error e => exact ⟨e, rfl⟩
  | ok i =>
    obtain ⟨r, hr, hw, -⟩ := selects_of_decodeCommand hd
    exact absurd hw (by simp [h r hr])

/-- The operation of a row is encoded by the row's operation code and the bits of its argument that the row leaves
free. -/
theorem encode_operation (c : Cfg) {r : CommandRow} (hr : r ∈ commandTable) (a : Byte) :
    encode c (r.operation a) = .command (commandWord (commandOp r.pattern) (a &&& ~~~commandArg r.mask)) := by
  have free : a &&& ~~~commandArg 0x00FF = a := BitVec.and_allOnes
  have fixed : a &&& ~~~commandArg 0xFFFF = 0 := BitVec.and_zero
  simp only [commandTable, List.mem_cons, List.not_mem_nil, or_false] at hr
  rcases hr with rfl | rfl | rfl | rfl | rfl | rfl | rfl | rfl | rfl | rfl <;> simp only [free, fixed] <;> rfl

/-! ## Decode and encode agree -/

/-- A command word with the operation code of a row that leaves `ARG` free decodes to the row's operation on the
argument. -/
theorem decodeCommand_commandWord {r : CommandRow} (hr : r ∈ commandTable) (hfree : commandArg r.mask = 0) (a : Byte) :
    decodeCommand (commandWord (commandOp r.pattern) a) = .ok (r.operation a) := by
  have hw : r.selects (commandWord (commandOp r.pattern) a) = true :=
    (selects_iff hr).mpr ⟨commandOp_commandWord _ _, by rw [hfree]; exact BitVec.and_zero⟩
  rw [decodeCommand_of_selects hr hw, commandArg_commandWord]

/-- Settles O1: format Z has eight words to read, format A the two rows with a free argument, and payloads of one length
are told apart by their command-ids, which R9 makes different. -/
theorem encodedInstructionDecodesToItself : Obligations.EncodedInstructionDecodesToItself := by
  rintro c ⟨-, -, -, -, hids⟩ i
  cases i with
  | mix | disp | esd | esc | escb | egv | crc | dec => rfl
  | dth i => exact decodeCommand_commandWord (r := commandTable[2]) (List.getElem_mem _) rfl i
  | esdr n => exact decodeCommand_commandWord (r := commandTable[4]) (List.getElem_mem _) rfl n
  | getValues => simp [encode, decode, payGetValues, decodePayload]
  | setDuty v | setDutyRouted n v =>
    simp [encode, decode, payDutyRouted, payDuty, be32, decodePayload, unbe32_be32]
  | setCurrent v | setCurrentBrake v =>
    simp only [Cfg.commandIds, List.nodup_cons, List.mem_cons, not_or] at hids
    obtain ⟨⟨hdc, hdb, -⟩, ⟨hcb, -⟩, -⟩ := hids
    simp [encode, decode, payCurrent, payBrake, be32, decodePayload, unbe32_be32, Ne.symm hdc, Ne.symm hdb,
      Ne.symm hcb]

/-- A command word that decodes to an instruction is its encoding. -/
theorem encode_of_decodeCommand (c : Cfg) {w : Word16} {i : Instr} (h : decodeCommand w = .ok i) :
    encode c i = .command w := by
  obtain ⟨r, hr, hw, rfl⟩ := selects_of_decodeCommand h
  obtain ⟨hop, harg⟩ := (selects_iff hr).mp hw
  have hfree : commandArg w &&& ~~~commandArg r.mask = commandArg w := by
    refine BitVec.eq_of_getLsbD_eq fun j hj => ?_
    have hbit := congrArg (fun x => x.getLsbD j) harg
    simpa [hj] using hbit
  rw [encode_operation c hr, hfree, ← hop, commandWord_commandOp_commandArg]

/-- A payload that decodes to an instruction is its encoding. -/
theorem encode_of_decodePayload {c : Cfg} {p : List Byte} {i : Instr} (h : decodePayload c p = .ok i) :
    encode c i = .payload p := by
  unfold decodePayload at h
  split at h
  next g =>
    split_ifs at h with hg
    cases h
    rw [hg, encode, payGetValues]
  next d b0 b1 b2 b3 =>
    split_ifs at h with hd hd hd <;> cases h <;>
      simp only [encode, payDuty, payCurrent, payBrake, be32_unbe32, hd]
  next f n d b0 b1 b2 b3 =>
    split_ifs at h with hfd
    cases h
    simp only [encode, payDutyRouted, payDuty, be32_unbe32, hfd]
  next => cases h

/-- Settles O2. -/
theorem decodedBitsAreTheEncoding : Obligations.DecodedBitsAreTheEncoding := by
  intro c e i h
  cases e with
  | command w => exact encode_of_decodeCommand c h
  | payload p => exact encode_of_decodePayload h

/-! ## The command port -/

/-- R70: the step of a running block with a pending command word that decodes to an instruction. -/
theorem step_of_command {s : State} {w : Word16} {rest : List HostAction} {i : Instr}
    (hs : s.hostStream = .command w :: rest) (he : s.err = 0) (hd : decodeCommand w = .ok i) :
    step s = exec i (s.setStream rest) := by
  have he' : (s.setStream rest).err = 0 := he
  rw [step_of_stream hs, performAction, issueCommand_of_running w he', hd]

/-- Settles O5. -/
theorem stepRunsTheDecodedInstruction : Obligations.StepRunsTheDecodedInstruction :=
  fun _ _ _ _ => step_of_command

/-- R74: the step of a running block with a pending illegal command word. -/
theorem step_of_illegal_command {s : State} {w : Word16} {rest : List HostAction}
    (hw : ∀ r ∈ commandTable, r.selects w = false) (hs : s.hostStream = .command w :: rest) (he : s.err = 0) :
    step s = .next ((s.setStream rest).takeFault .illop w) := by
  obtain ⟨e, hd⟩ := decodeCommand_of_selects_none hw
  have he' : (s.setStream rest).err = 0 := he
  rw [step_of_stream hs, performAction, issueCommand_of_running w he', hd]

/-- R74: the legal words are those with the `OP` of a row of format A, and the eight of format Z. -/
theorem exists_selects_iff (w : Word16) :
    (∃ r ∈ commandTable, r.selects w = true) ↔
      (w.toNat % 256 = 0x03 ∨ w.toNat % 256 = 0x11 ∨
        w.toNat ∈ [0x01, 0x02, 0x10, 0x12, 0x13, 0x14, 0x20, 0x21]) := by
  have hfields : (∃ r ∈ commandTable, r.selects w = true) ↔
      ∃ r ∈ commandTable, commandOp w = commandOp r.pattern ∧ commandArg w &&& commandArg r.mask = 0 :=
    exists_congr fun r => and_congr_right fun hr => selects_iff hr
  have hfree : commandArg w &&& commandArg 0x00FF = 0 := BitVec.and_zero
  have hfixed : commandArg w &&& commandArg 0xFFFF = commandArg w := BitVec.and_allOnes
  rw [hfields]
  simp only [commandTable, List.mem_cons, List.not_mem_nil, or_false, or_and_right, exists_or, exists_eq_left, hfree,
    hfixed, and_true, ← BitVec.toNat_inj, toNat_commandOp, toNat_commandArg]
  simp only [BitVec.ofNat_eq_ofNat, BitVec.toNat_ofNat]
  omega

/-- Settles O4. -/
theorem illegalCommandWordRaisesIllop : Obligations.IllegalCommandWordRaisesIllop := by
  refine ⟨fun w => ?_, exists_selects_iff, fun w s rest => step_of_illegal_command⟩
  have hnodup : ((commandTable.filter (·.selects w)).map fun r => commandOp r.pattern).Nodup :=
    (List.filter_sublist.map _).nodup ops_nodup
  have hsame : (commandTable.filter (·.selects w)).map (fun r => commandOp r.pattern) =
      List.replicate (commandTable.filter (·.selects w)).length (commandOp w) := by
    refine List.map_eq_replicate_iff.mpr fun r hr => ?_
    obtain ⟨hr, hw⟩ := List.mem_filter.mp hr
    exact ((selects_iff hr).mp hw).1.symm
  rwa [hsame, List.nodup_replicate] at hnodup

/-! ## The wire layout of a frame -/

section
variable (c : Cfg) (p : List Byte)

/-- The offsets of a frame, after START and LENGTH: payload byte j stands at j + 2. -/
theorem getElem?_frame_add_two (j : Nat) :
    (frame c p)[j + 2]? = (p ++ [highByte (crc16 c p), lowByte (crc16 c p), c.stopByte])[j]? := by
  simp [frame]

theorem getElem?_frame_payload {j : Nat} (hj : j < p.length) : (frame c p)[j + 2]? = p[j]? := by
  rw [getElem?_frame_add_two, List.getElem?_append_left hj]

/-- The three bytes behind the payload: the checksum, high byte first, and STOP. -/
theorem getElem?_frame_trailer (k : Nat) :
    (frame c p)[p.length + k + 2]? = [highByte (crc16 c p), lowByte (crc16 c p), c.stopByte][k]? := by
  rw [getElem?_frame_add_two, List.getElem?_append_right (by omega), Nat.add_sub_cancel_left]

end

/-- `Frame` is injective: equal frames are equally long, so their payloads stand at the same offsets. -/
theorem frame_injective (c : Cfg) : Function.Injective (frame c) := by
  intro q p h
  have hlen : q.length = p.length := by simpa using congrArg List.length h
  refine List.ext_getElem? fun j => ?_
  by_cases hj : j < p.length
  · rw [← getElem?_frame_payload c p hj, ← getElem?_frame_payload c q (hlen ▸ hj), h]
  · rw [List.getElem?_eq_none (by omega), List.getElem?_eq_none (by omega)]

/-- Settles O26. -/
theorem frameHasTheWireLayout : Obligations.FrameHasTheWireLayout := by
  intro c p _ hmax
  refine ⟨length_frame c p, rfl, ?_, fun j => getElem?_frame_payload c p, getElem?_frame_trailer c p 0,
    getElem?_frame_trailer c p 1, getElem?_frame_trailer c p 2, fun q _ _ h => frame_injective c h⟩
  have hlength : (BitVec.ofNat 8 p.length).toNat = p.length := Nat.mod_eq_of_lt (by omega)
  exact congrArg some hlength

/-! ## `WR RXBUF` -/

/-- R81: the byte writes of `WR RXBUF` from offset o on store the listed bytes there. -/
theorem run_writeRxbuf {s : State} {o : Nat} {bs : List Byte} {rest : List HostAction}
    (hb : o + bs.length ≤ 260) (hs : s.hostStream = writeRxbuf o bs ++ rest) :
    Host.Core.run Sys2Proof.core bs.length s =
      .next { s with rxbuf := s.rxbuf.writeRange o bs, hostStream := rest } := by
  induction bs generalizing s o with
  | nil => exact run_zero.mpr (by rw [← show s.hostStream = rest from hs]; rfl)
  | cons b bs ih =>
    rw [List.length_cons] at hb
    have hbyte : (b.setWidth 64).setWidth 8 = b := BitVec.setWidth_setWidth_of_le b (by decide)
    have hstep := step_of_write (s := s) hs (decide_eq_true (show o < 260 by omega))
    refine run_succ.mpr ⟨_, hstep, ?_⟩
    rw [State.hostWrite, hbyte]
    exact ih (by omega) rfl

/-- Settles O46. -/
theorem hostFillsTheReceiveBuffer : Obligations.HostFillsTheReceiveBuffer := by
  intro s bs rest hw hb hs
  exact ⟨_, run_writeRxbuf (by omega) hs, Memory.readRange_writeRange hw 0 bs,
    fun o ho => Memory.read_writeRange_outside hw (.inr (by omega)), fun _ _ => rfl, rfl⟩

/-! ## A placed table word -/

@[simp] theorem length_bytesOfNat (n w : Nat) : (bytesOfNat n w).length = n := by
  induction n generalizing w with
  | zero => rfl
  | succ n ih => rw [bytesOfNat, List.length_cons, ih]

/-- A byte of a run that was written from offset 0 on. -/
theorem Memory.read_writeRange_zero {m : Memory} (hm : m.wf) {f : List Byte} {j : Nat} {b : Byte}
    (hj : f[j]? = some b) : (m.writeRange 0 f).read j = b := by
  obtain ⟨hlt, -⟩ := List.getElem?_eq_some_iff.mp hj
  rw [Memory.read_writeRange hm, if_pos (by omega), Nat.sub_zero, List.getD_eq_getElem?_getD, hj, Option.getD_some]

/-- `FrameCheck` accepts the frame of a payload of 1 to 255 bytes, and finds the payload. -/
theorem frameCheck_frame (c : Cfg) {m : Memory} (hm : m.wf) {p : List Byte} (hmin : 1 ≤ p.length)
    (hmax : p.length ≤ 255) : frameCheck c (p.length + 5) (m.writeRange 0 (frame c p)) = .good p := by
  have hlength : ((m.writeRange 0 (frame c p)).read 1).toNat = p.length := by
    rw [Memory.read_writeRange_zero hm (b := BitVec.ofNat 8 p.length) rfl]
    exact Nat.mod_eq_of_lt (by omega)
  have hpayload : (m.writeRange 0 (frame c p)).readRange 2 p.length = p := by
    refine List.ext_getElem (by simp) fun j _ hj => ?_
    rw [Memory.getElem_readRange, Nat.add_comm]
    exact Memory.read_writeRange_zero hm (by rw [getElem?_frame_payload c p hj, List.getElem?_eq_getElem hj])
  have htrailer := fun k b hk => Memory.read_writeRange_zero hm (b := b) ((getElem?_frame_trailer c p k).trans hk)
  rw [frameCheck_eq_good, hlength, hpayload]
  refine ⟨by omega, Memory.read_writeRange_zero hm rfl, by omega, rfl, htrailer 2 _ rfl, rfl, ?_⟩
  rw [htrailer 0 _ rfl, htrailer 1 _ rfl, highByte_append_lowByte]

/-- An instruction that is encoded as a payload does what DEC does when it accepts the payload
(notes/assumptions/4.md). -/
theorem operationOf_of_encode_payload {c : Cfg} {i : Instr} {p : List Byte} (h : encode c i = .payload p) :
    operationOf c i = acceptPayload c p := by
  cases i with
  | setDuty _ | setDutyRouted _ _ | setCurrent _ | setCurrentBrake _ | getValues =>
    cases h
    rfl
  | mix | disp | dth _ | esd | esdr _ | esc | escb | egv | crc | dec => cases h

/-- DEC on a running block that holds a valid frame runs the instruction that the frame's payload decodes to. -/
theorem exec_dec_of_good {s : State} {p : List Byte} {i : Instr} (he : s.err = 0)
    (hcheck : frameCheck Config.cfg s.rxlen.toNat s.rxbuf = .good p) (hd : decodePayload Config.cfg p = .ok i) :
    exec .dec s = exec i s := by
  rw [exec_of_running _ he, exec_of_running _ he, operationOf_of_encode_payload (encode_of_decodePayload hd),
    operationOf, decOp, hcheck]

/-- What the decoder reads from a table word, when it reads something. -/
theorem decode_of_decodeTableWord {nbits w : Nat} {i : Instr} (h : decodeTableWord nbits w = some i) :
    decode Config.cfg (encodedOfTableWord nbits w) = .ok i := by
  rw [decodeTableWord] at h
  cases hd : decode Config.cfg (encodedOfTableWord nbits w) with
  | ok i' =>
    rw [hd] at h
    exact congrArg Except.ok (Option.some.inj h)
  | error e =>
    rw [hd] at h
    cases h

/-- Settles O49. -/
theorem placedTableWordRunsNext : Obligations.PlacedTableWordRunsNext := by
  intro s w i he
  refine ⟨fun h => ?_, fun nbits hn hw h => ?_⟩
  · exact step_of_command rfl he (decode_of_decodeTableWord h)
  · have hsizes : ∀ n ∈ [8, 40, 56], n ≠ 16 ∧ 1 ≤ n / 8 ∧ n / 8 ≤ 255 := by decide
    obtain ⟨h16, hmin, hmax⟩ := hsizes nbits hn
    have henc : encodedOfTableWord nbits w = .payload (bytesOfNat (nbits / 8) w) := if_neg h16
    have hd := decode_of_decodeTableWord h
    rw [henc] at hd
    have hplaced : s.withFetchWord nbits w =
        { s with
          rxbuf := s.rxbuf.writeRange 0 (frame Config.cfg (bytesOfNat (nbits / 8) w))
          rxlen := BitVec.ofNat 16 (nbits / 8 + 5)
          hostStream := .command (commandWord 0x21 0) :: s.hostStream } := by
      rw [State.withFetchWord, presentWord, henc]
      simp only [length_frame, length_bytesOfNat]
    have hcheck := frameCheck_frame Config.cfg hw (p := bytesOfNat (nbits / 8) w) (by simpa using hmin)
      (by simpa using hmax)
    have hlen : (BitVec.ofNat 16 (nbits / 8 + 5)).toNat = nbits / 8 + 5 := Nat.mod_eq_of_lt (by omega)
    rw [length_bytesOfNat, ← hlen] at hcheck
    rw [hplaced]
    exact Eq.trans (step_of_command (w := commandWord 0x21 0) (i := .dec) (rest := s.hostStream) rfl he rfl)
      (exec_dec_of_good he hcheck hd)

end Sys2Proof.Machine
end

section
/-! PROOFS. The mixing engine (spec/40_mixing.md): the operation MIX in terms of its lanes (R95, R96), the symmetries of
a lane (R98 to R101) and the widths of its arithmetic (R102). -/

namespace Sys2Proof.Machine

/-! ## The arithmetic of R14 -/

theorem trunc0_neg (p q : Int) : trunc0 (-p) q = -trunc0 p q := by
  rw [trunc0_eq_tdiv, trunc0_eq_tdiv, Int.neg_tdiv]

theorem trunc0_zero (q : Int) : trunc0 0 q = 0 := by rw [trunc0_eq_tdiv, Int.zero_tdiv]

/-- Saturation between symmetric bounds is odd. -/
theorem clamp_neg {v m : Int} (hm : 0 ≤ m) : clamp (-v) (-m) m = -clamp v (-m) m := by
  rw [clamp_eq_max_min (by omega), clamp_eq_max_min (by omega)]
  omega

/-- R93: the rounding never increases the magnitude. -/
theorem abs_trunc0_mul_le (p : Int) {q : Int} (hq : 0 ≤ q) : |trunc0 p q| * q ≤ |p| := by
  obtain ⟨n, rfl⟩ := Int.eq_ofNat_of_zero_le hq
  rw [trunc0_eq_tdiv, Int.abs_eq_natAbs, Int.abs_eq_natAbs, Int.natAbs_tdiv, Int.natAbs_natCast]
  exact_mod_cast Nat.div_mul_le_self p.natAbs n

theorem axisSum_eq_sum (f : Fin 6 → Int) : axisSum f = ∑ k, f k := (Fin.sum_univ_six f).symm

/-! ## The operation MIX -/

/-- MIX on a running block answers the state of `mixOp` and no other. -/
theorem eq_mixOp_of_exec {s t : State} (he : s.err = 0) (h : exec .mix s = .next t) : t = mixOp Config.cfg s := by
  rw [exec_of_running .mix he] at h
  exact (Host.Outcome.next.inj h).symm

/-- R95: what MIX writes. -/
@[simp] theorem mixOp_th (c : Cfg) (s : State) : (mixOp c s).th = (mix c (axes s.sp)).map tc32 := rfl

/-- R95: `TH` is all that MIX writes. -/
theorem mixOp_frame (c : Cfg) (s : State) : mixOp c s = { s with th := (mixOp c s).th } := rfl

/-- R96 in one line, with the rounding and the clamp in the library's words. -/
theorem mixLane_eq (c : Cfg) (a : Fin 6 → Int) (lane : Lane) :
    mixLane c a lane = max (-(c.maxDutyU : Int)) (min (c.maxDutyU : Int)
      (Int.tdiv (lane.dir.toInt * (((List.finRange 6).map fun k => (lane.mm.get k).toInt * a k).sum) * 2 *
        (c.maxDutyU : Int)) ((c.normDen2 : Int) * 2 ^ c.coefFrac))) := by
  rw [mixLane, clamp_eq_max_min (by omega), trunc0_eq_tdiv, min_comm, mixNum, mixDen, mixAcc, axisSum_eq_sum,
    Fin.sum_univ_def]

/-- Settles O13. -/
theorem mixWritesEveryThruster : Obligations.MixWritesEveryThruster := by
  intro s he
  refine ⟨mixOp Config.cfg s, exec_of_running .mix he, by simp, fun i lane hlane => ?_, mixOp_frame _ s,
    fun _ _ => rfl, fun _ => rfl⟩
  rw [mixOp_th, List.getElem?_map, getElem?_mix, hlane, Option.map_some, Option.map_some, mixLane_eq]
  rfl

/-- Settles O14. -/
theorem mixStaysInsideTheCeiling : Obligations.MixStaysInsideTheCeiling := by
  intro s t he h x hx
  rw [eq_mixOp_of_exec he h, mixOp_th] at hx
  obtain ⟨hlow, hhigh⟩ := mix_bound Config.cfg_wf _ x hx
  obtain ⟨-, -, hmax, -, -⟩ := Config.cfg_wf
  exact ⟨⟨hlow, hhigh⟩, by omega, by omega⟩

/-! ## What a lane depends on -/

/-- The six axes are views of bits 47 to 0 of `SP` (R22). -/
theorem axisByte_eq_extractLsb' (sp : Word64) (k : Fin 6) :
    axisByte sp k = (sp.extractLsb' 0 48).extractLsb' (8 * k.val) 8 := by
  refine BitVec.eq_of_getLsbD_eq fun i hi => ?_
  have inside : 8 * k.val + i < 48 := by omega
  simp [axisByte, spField, hi, inside]

/-- R24: setpoints that agree in bits 47 to 0 have the same axes. -/
theorem axes_congr {v w : Word64} (h : v.extractLsb' 0 48 = w.extractLsb' 0 48) : axes v = axes w := by
  funext k
  rw [axes, axes, axisByte_eq_extractLsb', axisByte_eq_extractLsb', h]

/-- Settles O15. -/
theorem mixDependsOnTheAxesOnly : Obligations.MixDependsOnTheAxesOnly := by
  intro s s' t t' he he' hsp h h'
  rw [eq_mixOp_of_exec he h, eq_mixOp_of_exec he' h', mixOp_th, mixOp_th, axes_congr hsp]

/-- R99: of the configuration, a lane uses the three shared constants only. -/
theorem mixLane_congr {c c' : Cfg} (hmax : c'.maxDutyU = c.maxDutyU) (hnorm : c'.normDen2 = c.normDen2)
    (hfrac : c'.coefFrac = c.coefFrac) (a : Fin 6 → Int) : mixLane c' a = mixLane c a := by
  funext lane
  simp only [mixLane, mixNum, mixDen, hmax, hnorm, hfrac]

/-- Settles O17. -/
theorem lanesAreIndependent : Obligations.LanesAreIndependent := by
  intro c c' a i hmax hnorm hfrac hlane
  rw [getElem?_mix, getElem?_mix, hlane, mixLane_congr hmax hnorm hfrac]

/-! ## Oddness -/

/-- A lane whose numerator is the negative of another's gives the negative of its value. -/
theorem mixLane_neg_of_mixNum_neg {c : Cfg} {a a' : Fin 6 → Int} {lane lane' : Lane}
    (h : mixNum c lane' a' = -mixNum c lane a) : mixLane c a' lane' = -mixLane c a lane := by
  rw [mixLane, h, trunc0_neg, clamp_neg (by omega), mixLane]

/-- Negated axes negate the sum of R92. -/
theorem mixAcc_neg (lane : Lane) (a : Fin 6 → Int) : mixAcc lane (-a) = -mixAcc lane a := by
  simp only [mixAcc, axisSum_eq_sum, Pi.neg_apply, mul_neg, Finset.sum_neg_distrib]

/-- R100: a lane is odd in the axes. -/
theorem mixLane_neg (c : Cfg) (a : Fin 6 → Int) (lane : Lane) : mixLane c (-a) lane = -mixLane c a lane :=
  mixLane_neg_of_mixNum_neg (by rw [mixNum, mixAcc_neg, mixNum]; ring)

/-- R100: reversing the direction sign negates the lane. -/
theorem mixLane_minus (c : Cfg) (mm : Vector Byte 6) (a : Fin 6 → Int) :
    mixLane c a ⟨mm, .minus⟩ = -mixLane c a ⟨mm, .plus⟩ :=
  mixLane_neg_of_mixNum_neg (by simp only [mixNum, mixAcc, Sign.toInt]; ring)

/-- R9: a value of the mixer fits into its thruster register. -/
theorem toInt_tc32_mixLane {c : Cfg} (hc : c.wf) (a : Fin 6 → Int) (lane : Lane) :
    (tc32 (mixLane c a lane)).toInt = mixLane c a lane := by
  obtain ⟨-, -, hmax, -, -⟩ := hc
  have hm : -(c.maxDutyU : Int) ≤ mixLane c a lane ∧ mixLane c a lane ≤ (c.maxDutyU : Int) := clamp_mem (by omega)
  exact toInt_tc32 (by omega) (by omega)

/-- A thruster value after MIX: its lane, and 0 where there is no thruster (notes/assumptions/9.md). -/
theorem toInt_thrust_mixOp {c : Cfg} (hc : c.wf) (s : State) (i : Nat) :
    ((mixOp c s).thrust i).toInt = (c.lanes[i]?.map (mixLane c (axes s.sp))).getD 0 := by
  rw [State.thrust, mixOp_th, List.getD_eq_getElem?_getD, List.getElem?_map, getElem?_mix]
  cases c.lanes[i]? with
  | none => rfl
  | some lane => exact toInt_tc32_mixLane hc _ lane

/-- Settles O16. -/
theorem mixIsOdd : Obligations.MixIsOdd := by
  refine ⟨fun s s' t t' he he' hneg h h' i => ?_, mixLane_minus⟩
  have haxes : axes s'.sp = -axes s.sp := funext hneg
  rw [eq_mixOp_of_exec he h, eq_mixOp_of_exec he' h', toInt_thrust_mixOp Config.cfg_wf,
    toInt_thrust_mixOp Config.cfg_wf, haxes]
  cases Config.cfg.lanes[i]? with
  | none => rfl
  | some lane => exact mixLane_neg _ _ lane

/-! ## Full scale -/

/-- The numerator of a lane with direction +1 that one axis drives with coefficient 1. -/
theorem mixNum_of_single_axis (c : Cfg) {lane : Lane} {k : Fin 6} (a : Fin 6 → Int) (hdir : lane.dir = .plus)
    (hk : (lane.mm.get k).toInt = 1) (hothers : ∀ j, j ≠ k → (lane.mm.get j).toInt = 0) :
    mixNum c lane a = a k * 2 * (c.maxDutyU : Int) := by
  have hacc : mixAcc lane a = a k := by
    rw [mixAcc, axisSum_eq_sum, Finset.sum_eq_single k (fun j _ hj => by rw [hothers j hj, zero_mul])
      fun hk => absurd (Finset.mem_univ k) hk, hk, one_mul]
  rw [mixNum, hacc, hdir, Sign.toInt, one_mul]

/-- A lane with no coefficient that meets an axis has the sum 0. -/
theorem mixAcc_eq_zero {lane : Lane} {a : Fin 6 → Int} (h : ∀ k, (lane.mm.get k).toInt = 0 ∨ a k = 0) :
    mixAcc lane a = 0 := by
  rw [mixAcc, axisSum_eq_sum]
  exact Finset.sum_eq_zero fun k _ => mul_eq_zero.mpr (h k)

/-- A numerator within the ceiling times the divisor is not saturated. -/
theorem mixLane_of_abs_mixNum_le {c : Cfg} (hc : c.wf) {lane : Lane} {a : Fin 6 → Int}
    (h : |mixNum c lane a| ≤ (c.maxDutyU : Int) * mixDen c) :
    mixLane c a lane = trunc0 (mixNum c lane a) (mixDen c) := by
  have hq : |trunc0 (mixNum c lane a) (mixDen c)| ≤ (c.maxDutyU : Int) :=
    le_of_mul_le_mul_right ((abs_trunc0_mul_le _ (mixDen_pos hc).le).trans h) (mixDen_pos hc)
  obtain ⟨hlow, hhigh⟩ := abs_le.mp hq
  exact clamp_of_mem hlow hhigh

/-- A lane driven by one axis, with no fraction bits, while twice the axis is within the divisor. -/
theorem mixLane_of_single_axis {c : Cfg} (hc : c.wf) (hfrac : c.coefFrac = 0) {lane : Lane} {k : Fin 6}
    {a : Fin 6 → Int} (hdir : lane.dir = .plus) (hk : (lane.mm.get k).toInt = 1)
    (hothers : ∀ j, j ≠ k → (lane.mm.get j).toInt = 0) (hrange : |a k * 2| ≤ (c.normDen2 : Int)) :
    mixLane c a lane = Int.tdiv (a k * 2 * (c.maxDutyU : Int)) c.normDen2 := by
  have hnum := mixNum_of_single_axis c a hdir hk hothers
  have hden : mixDen c = c.normDen2 := by rw [mixDen, hfrac, pow_zero, mul_one]
  have hle : |mixNum c lane a| ≤ (c.maxDutyU : Int) * mixDen c := by
    rw [hnum, hden, abs_mul, mul_comm, Nat.abs_cast]
    gcongr
  rw [mixLane_of_abs_mixNum_le hc hle, hnum, hden, trunc0_eq_tdiv]

/-- R101: a lane with no coefficient that meets an axis stays at 0. -/
theorem mixLane_eq_zero (c : Cfg) {lane : Lane} {a : Fin 6 → Int} (h : ∀ k, (lane.mm.get k).toInt = 0 ∨ a k = 0) :
    mixLane c a lane = 0 := by
  have hnum : mixNum c lane a = 0 := by rw [mixNum, mixAcc_eq_zero h, mul_zero, zero_mul, zero_mul]
  rw [mixLane, hnum, trunc0_zero, clamp_of_mem (by omega) (by omega)]

/-- Settles O18. -/
theorem singleAxisReachesFullScale : Obligations.SingleAxisReachesFullScale := by
  refine ⟨fun c lane k a hc hfrac hdir hk hothers => ?_, fun c lane a => mixLane_eq_zero c⟩
  have hlane := mixLane_of_single_axis (a := a) hc hfrac hdir hk hothers
  refine ⟨fun hnorm ha => ?_, fun hnorm ha => ?_, fun hnorm ha => ?_⟩ <;> rw [hnorm, ha] at hlane
  · calc mixLane c a lane = Int.tdiv (254 * (c.maxDutyU : Int)) 254 := hlane (by decide)
      _ = c.maxDutyU := Int.mul_tdiv_cancel_left _ (by decide)
  · calc mixLane c a lane = Int.tdiv (-254 * (c.maxDutyU : Int)) 254 := hlane (by decide)
      _ = -Int.tdiv (254 * (c.maxDutyU : Int)) 254 := by rw [neg_mul, Int.neg_tdiv]
      _ = -(c.maxDutyU : Int) := by rw [Int.mul_tdiv_cancel_left _ (by decide)]
  · exact hlane (by decide)

/-! ## The widths of R102 -/

/-- R92: the range of a product of two signed bytes. -/
theorem toInt_mul_toInt_mem (x y : Byte) : -16256 ≤ x.toInt * y.toInt ∧ x.toInt * y.toInt ≤ 16384 := by
  have hx : -128 ≤ x.toInt ∧ x.toInt ≤ 127 := ⟨x.le_toInt, Int.le_of_lt_add_one x.toInt_lt⟩
  have hy : -128 ≤ y.toInt ∧ y.toInt ≤ 127 := ⟨y.le_toInt, Int.le_of_lt_add_one y.toInt_lt⟩
  constructor <;> rcases le_total 0 x.toInt with h | h <;> nlinarith

/-- R92: six products of at most 16384 in magnitude. -/
theorem abs_mixAcc_le (lane : Lane) (sp : Word64) : |mixAcc lane (axes sp)| ≤ 98304 := by
  have hprod : ∀ k, |(lane.mm.get k).toInt * axes sp k| ≤ 16384 := fun k => by
    obtain ⟨hlow, hhigh⟩ := toInt_mul_toInt_mem (lane.mm.get k) (axisByte sp k)
    exact abs_le.mpr ⟨by rw [axes]; omega, hhigh⟩
  calc |mixAcc lane (axes sp)|
      = |∑ k, (lane.mm.get k).toInt * axes sp k| := by rw [mixAcc, axisSum_eq_sum]
    _ ≤ ∑ k, |(lane.mm.get k).toInt * axes sp k| := Finset.abs_sum_le_sum_abs _ _
    _ ≤ ∑ _k : Fin 6, 16384 := Finset.sum_le_sum fun k _ => hprod k
    _ = 98304 := rfl

theorem Sign.abs_toInt (d : Sign) : |d.toInt| = 1 := by cases d <;> rfl

/-- R93: the magnitude of the numerator. -/
theorem abs_mixNum_le {c : Cfg} (hc : c.wf) (lane : Lane) (sp : Word64) :
    |mixNum c lane (axes sp)| ≤ 19660800000 := by
  obtain ⟨-, -, hmax, -, -⟩ := hc
  have hmax' : (c.maxDutyU : Int) ≤ 100000 := by exact_mod_cast hmax
  calc |mixNum c lane (axes sp)|
      = |mixAcc lane (axes sp)| * (2 * (c.maxDutyU : Int)) := by
        rw [mixNum, mul_assoc, abs_mul, abs_mul, Sign.abs_toInt, one_mul, abs_of_nonneg (by omega : (0 : Int) ≤ 2 * _)]
    _ ≤ 98304 * (2 * 100000) := by gcongr; exact abs_mixAcc_le lane sp
    _ = 19660800000 := rfl

/-- R93: the range of the divisor. -/
theorem mixDen_mem {c : Cfg} (hc : c.wf) : 254 ≤ mixDen c ∧ mixDen c ≤ 32640 := by
  obtain ⟨-, hfrac, -, hnorm, -⟩ := hc
  have hlow : (1 : Int) ≤ 2 ^ c.coefFrac := one_le_pow₀ (by decide)
  have hhigh : (2 : Int) ^ c.coefFrac ≤ 2 ^ 7 := pow_le_pow_right₀ (by decide) hfrac
  rw [mixDen]
  rcases hnorm with hnorm | hnorm <;> rw [hnorm] <;> omega

/-- Settles O19. -/
theorem mixerWidthsSuffice : Obligations.MixerWidthsSuffice := by
  intro c lane sp hc
  have hnum := abs_mixNum_le hc lane sp
  obtain ⟨hdenLow, hdenHigh⟩ := mixDen_mem hc
  have hround := abs_trunc0_mul_le (mixNum c lane (axes sp)) (mixDen_pos hc).le
  have hquot : |trunc0 (mixNum c lane (axes sp)) (mixDen c)| * 254 ≤ 19660800000 :=
    calc |trunc0 (mixNum c lane (axes sp)) (mixDen c)| * 254
        ≤ |trunc0 (mixNum c lane (axes sp)) (mixDen c)| * mixDen c := by gcongr
      _ ≤ 19660800000 := hround.trans hnum
  exact ⟨fun k => toInt_mul_toInt_mem (lane.mm.get k) (axisByte sp k), abs_mixAcc_le lane sp, by omega, hdenLow,
    hdenHigh, by omega, hround⟩

end Sys2Proof.Machine
end

section
/-! PROOFS. The encoder side of the codec (spec/41_codec_encode.md): the frames of the encode operations (R116 to R123),
the two checksum algorithms in numbers (R111 to R113), the operation CRC (R124), and that a checksum sees a change of
any one byte (R114). -/

namespace Sys2Proof.Machine

/-! ## The encode operations -/

/-- R115, R118: what an operation that builds the frame of p leaves, n being the frame's length. -/
theorem buildFrame_spec (c : Cfg) {s : State} (hw : s.txbuf.wf) {p : List Byte} {n : Nat} (hn : p.length + 5 = n) :
    (buildFrame c p s).txlen = BitVec.ofNat 8 n ∧
      (buildFrame c p s).txbuf.readRange 0 n = frame c p ∧
      txSameFrom n s (buildFrame c p s) ∧ rxSame s (buildFrame c p s) ∧
      buildFrame c p s = { s with txbuf := (buildFrame c p s).txbuf, txlen := (buildFrame c p s).txlen } := by
  obtain rfl : (frame c p).length = n := (length_frame c p).trans hn
  obtain ⟨hstored, habove⟩ := storeFrame_spec hw (frame c p)
  exact ⟨rfl, hstored, habove, fun _ => rfl, rfl⟩

/-- R119, R121, R122: ESD, ESC and ESCB frame their command-id and `VAL`. -/
theorem operationOf_valueEncoder (c : Cfg) (s : State) {x : Instr × Byte}
    (hx : x ∈ [(Instr.esd, c.cmdSetDuty), (Instr.esc, c.cmdSetCurrent), (Instr.escb, c.cmdSetCurrentBrake)]) :
    operationOf c x.1 s = buildFrame c (x.2 :: be32 s.val) s := by
  simp only [List.mem_cons, List.not_mem_nil, or_false] at hx
  rcases hx with rfl | rfl | rfl <;> rfl

/-- Settles O20. -/
theorem valueEncodersBuildTheirFrame : Obligations.ValueEncodersBuildTheirFrame := by
  intro s he hw x hx
  refine ⟨buildFrame Config.cfg (x.2 :: be32 s.val) s, x.2 :: be32 s.val, ?_, rfl, buildFrame_spec Config.cfg hw rfl⟩
  rw [exec_of_running x.1 he, operationOf_valueEncoder Config.cfg s hx]

/-- Settles O21. -/
theorem routedEncoderBuildsItsFrame : Obligations.RoutedEncoderBuildsItsFrame := fun s n he hw =>
  ⟨buildFrame Config.cfg (payDutyRouted Config.cfg n s.val) s, payDutyRouted Config.cfg n s.val,
    exec_of_running (.esdr n) he, rfl, buildFrame_spec Config.cfg hw rfl⟩

/-- Settles O22. -/
theorem getValuesEncoderBuildsItsFrame : Obligations.GetValuesEncoderBuildsItsFrame := fun s he hw =>
  ⟨buildFrame Config.cfg (payGetValues Config.cfg) s, exec_of_running .egv he, buildFrame_spec Config.cfg hw rfl⟩

/-! ## The checksums in numbers -/

/-- R113: the checksum of each of the two builds. -/
theorem crc16_of_ccitt {c : Cfg} (h : c.crcVariant = .ccitt) (p : List Byte) : crc16 c p = crcCcitt p := by
  rw [crc16, h]

theorem crc16_of_a001 {c : Cfg} (h : c.crcVariant = .a001) (p : List Byte) : crc16 c p = crcA001 p := by
  rw [crc16, h]

theorem crcCcitt_concat (p : List Byte) (b : Byte) : crcCcitt (p ++ [b]) = ccittByte (crcCcitt p) b :=
  List.foldl_concat ..

theorem crcA001_concat (p : List Byte) (b : Byte) : crcA001 (p ++ [b]) = a001Byte (crcA001 p) b :=
  List.foldl_concat ..

/-- The model's repetition is the library's. -/
theorem repeat_eq_iterate {α : Type} (f : α → α) (n : Nat) : Nat.repeat f n = f^[n] := by
  induction n with
  | zero => rfl
  | succ n ih =>
    funext x
    rw [Function.iterate_succ_apply', ← ih, Nat.repeat]

/-- Steps that are g in numbers are, one after another, as many steps of g. -/
theorem toNat_repeat {f : Word16 → Word16} {g : Nat → Nat} (h : ∀ x, (f x).toNat = g x.toNat) (n : Nat) (x : Word16) :
    (Nat.repeat f n x).toNat = g^[n] x.toNat := by
  rw [repeat_eq_iterate]
  exact Function.Semiconj.iterate_right (f := BitVec.toNat) h n x

/-- R111 in numbers: a byte at the high end of the register. -/
theorem toNat_highEnd (b : Byte) : ((b.setWidth 16 : Word16) <<< 8).toNat = b.toNat * 256 := by
  rw [BitVec.toNat_shiftLeft, BitVec.toNat_setWidth_of_le (by decide), Nat.shiftLeft_eq, Nat.mod_eq_of_lt (by omega)]

/-- R112 in numbers: a byte at the low end of the register. -/
theorem toNat_lowEnd (b : Byte) : (b.setWidth 16 : Word16).toNat = b.toNat :=
  BitVec.toNat_setWidth_of_le (by decide)

/-- R111 in numbers: one more byte. -/
theorem toNat_crcCcitt_concat (p : List Byte) (b : Byte) : (crcCcitt (p ++ [b])).toNat =
    (fun r : Nat => if 0x8000 ≤ r then (2 * r % 0x10000) ^^^ 0x1021 else 2 * r % 0x10000)^[8]
      ((crcCcitt p).toNat ^^^ (b.toNat * 256)) := by
  rw [crcCcitt_concat, ccittByte, ← toNat_highEnd, ← BitVec.toNat_xor]
  exact toNat_repeat toNat_ccittBit 8 _

/-- R112 in numbers: one more byte. -/
theorem toNat_crcA001_concat (p : List Byte) (b : Byte) : (crcA001 (p ++ [b])).toNat =
    (fun r : Nat => if r % 2 = 1 then (r / 2) ^^^ 0xA001 else r / 2)^[8] ((crcA001 p).toNat ^^^ b.toNat) := by
  rw [crcA001_concat, a001Byte, ← toNat_lowEnd, ← BitVec.toNat_xor]
  exact toNat_repeat toNat_a001Bit 8 _

/-! ## The operation CRC -/

/-- Settles O24: the two outcomes of CRC, and each algorithm from no bytes on, one byte at a time. -/
theorem crcOperationChecksTheBuffer : Obligations.CrcOperationChecksTheBuffer := by
  refine ⟨fun s he hlen => ?_, fun s he hlen => ?_, fun c hc => ?_, fun c hc => ?_⟩
  · obtain ⟨-, hop⟩ := (crcOp_cases Config.cfg s).resolve_left fun ⟨hgt, _⟩ => hgt.not_ge hlen
    rw [exec_of_running .crc he, operationOf, hop, State.setCrcr]
  · obtain ⟨-, hop⟩ := (crcOp_cases Config.cfg s).resolve_right fun ⟨hle, _⟩ => hle.not_gt hlen
    rw [exec_of_running .crc he, operationOf, hop]
    rfl
  · simp only [crc16_of_ccitt hc]
    exact ⟨rfl, toNat_crcCcitt_concat, by decide +kernel⟩
  · simp only [crc16_of_a001 hc]
    exact ⟨rfl, toNat_crcA001_concat, by decide +kernel⟩

/-! ## A checksum sees a change of one byte -/

theorem repeat_injective {α : Type} {f : α → α} (hf : Function.Injective f) (n : Nat) :
    Function.Injective (Nat.repeat f n) := by
  rw [repeat_eq_iterate]
  exact hf.iterate n

theorem highEnd_injective : Function.Injective fun b : Byte => (b.setWidth 16 : Word16) <<< 8 := by
  intro x y h
  have hnum := congrArg BitVec.toNat h
  simp only [toNat_highEnd] at hnum
  exact BitVec.eq_of_toNat_eq (by omega)

theorem lowEnd_injective : Function.Injective fun b : Byte => (b.setWidth 16 : Word16) := by
  intro x y h
  have hnum := congrArg BitVec.toNat h
  simp only [toNat_lowEnd] at hnum
  exact BitVec.eq_of_toNat_eq hnum

/-- R111: a byte keeps different registers different. -/
theorem ccittByte_injective_left (b : Byte) : Function.Injective (ccittByte · b) := fun _ _ h =>
  (BitVec.xor_left_inj _).mp (repeat_injective ccittBit_injective 8 h)

/-- R111: different bytes take one register to different ones. -/
theorem ccittByte_injective_right (r : Word16) : Function.Injective (ccittByte r) := fun _ _ h =>
  highEnd_injective ((BitVec.xor_right_inj r).mp (repeat_injective ccittBit_injective 8 h))

/-- R112: a byte keeps different registers different. -/
theorem a001Byte_injective_left (b : Byte) : Function.Injective (a001Byte · b) := fun _ _ h =>
  (BitVec.xor_left_inj _).mp (repeat_injective a001Bit_injective 8 h)

/-- R112: different bytes take one register to different ones. -/
theorem a001Byte_injective_right (r : Word16) : Function.Injective (a001Byte r) := fun _ _ h =>
  lowEnd_injective ((BitVec.xor_right_inj r).mp (repeat_injective a001Bit_injective 8 h))

section
variable {σ β : Type} {f : σ → β → σ}

/-- A fold that loses nothing of its state tells its starting states apart. -/
theorem foldl_injective (hstate : ∀ b, Function.Injective (f · b)) (p : List β) :
    Function.Injective fun r => p.foldl f r := by
  induction p with
  | nil => exact Function.injective_id
  | cons b p ih => exact ih.comp (hstate b)

/-- A fold that loses nothing of its state and nothing of an element sees a change of one element: up to it the states
agree, there they part, and they stay apart. -/
theorem foldl_set_ne (hstate : ∀ b, Function.Injective (f · b)) (helem : ∀ r, Function.Injective (f r)) {x y : β}
    (hne : y ≠ x) {p : List β} {j : Nat} (hx : p[j]? = some x) (r : σ) : (p.set j y).foldl f r ≠ p.foldl f r := by
  induction p generalizing j r with
  | nil => cases hx
  | cons b p ih =>
    cases j with
    | zero =>
      cases hx
      exact fun h => hne (helem r (foldl_injective hstate p h))
    | succ j => exact ih hx (f r b)

end

/-- R114 (b), for a change of any kind in one byte, in either variant. -/
theorem crc16_set_ne (c : Cfg) {p : List Byte} {j : Nat} {x y : Byte} (hne : y ≠ x) (hx : p[j]? = some x) :
    crc16 c (p.set j y) ≠ crc16 c p := by
  cases hc : c.crcVariant with
  | ccitt =>
    rw [crc16_of_ccitt hc, crc16_of_ccitt hc]
    exact foldl_set_ne ccittByte_injective_left ccittByte_injective_right hne hx _
  | a001 =>
    rw [crc16_of_a001 hc, crc16_of_a001 hc]
    exact foldl_set_ne a001Byte_injective_left a001Byte_injective_right hne hx _

/-- A byte with one bit flipped is another byte. -/
theorem xor_bit_ne (x : Byte) (b : Fin 8) : x ^^^ ((1 : Byte) <<< b.val) ≠ x := by
  have hbit : ∀ b : Fin 8, (1 : Byte) <<< b.val ≠ 0 := by decide
  exact fun h => hbit b ((BitVec.xor_right_inj x).mp (h.trans BitVec.xor_zero.symm))

/-- Settles O25: flipping a bit changes one byte. -/
theorem crcSeesEverySingleBitError : Obligations.CrcSeesEverySingleBitError :=
  ⟨fun c _ _ b x hx => crc16_set_ne c (xor_bit_ne x b) hx, by decide⟩

end Sys2Proof.Machine
end

section
/-! PROOFS. The decoder side of the codec (spec/42_codec_decode.md): which buffers `FrameCheck` accepts (R148), what it
answers on a valid frame with one byte changed (R149), what DEC leaves (R150, R151), and the round trip of R153. -/

namespace Sys2Proof.Machine

/-! ## A buffer byte by byte -/

/-- Bytes in the places of a frame (R75), whatever they are: START, LENGTH, a payload, the two checksum bytes, STOP. -/
def wireBytes (start len : Byte) (p : List Byte) (high low stop : Byte) : List Byte :=
  [start, len] ++ p ++ [high, low, stop]

theorem frame_eq_wireBytes (c : Cfg) (p : List Byte) :
    frame c p = wireBytes c.startByte (BitVec.ofNat 8 p.length) p (highByte (crc16 c p)) (lowByte (crc16 c p))
      c.stopByte := rfl

theorem Memory.readRange_add (m : Memory) (o k n : Nat) :
    m.readRange o (k + n) = m.readRange o k ++ m.readRange (o + k) n := by
  simp [Memory.readRange, List.range_add, Function.comp_def, Nat.add_assoc]

/-- The first n + 5 bytes of a buffer, each in its place of a frame with a payload of n bytes. -/
theorem Memory.readRange_eq_wireBytes (m : Memory) (n : Nat) :
    m.readRange 0 (n + 5) =
      wireBytes (m.read 0) (m.read 1) (m.readRange 2 n) (m.read (n + 2)) (m.read (n + 3)) (m.read (n + 4)) := by
  rw [show n + 5 = 2 + n + 3 by omega, Memory.readRange_add, Memory.readRange_add, show 0 + (2 + n) = n + 2 by omega]
  rfl

/-- What it is for a buffer to begin with the bytes of a frame. -/
theorem Memory.readRange_eq_wireBytes_iff {m : Memory} {start len high low stop : Byte} {p : List Byte} :
    m.readRange 0 (p.length + 5) = wireBytes start len p high low stop ↔
      m.read 0 = start ∧ m.read 1 = len ∧ m.readRange 2 p.length = p ∧ m.read (p.length + 2) = high ∧
        m.read (p.length + 3) = low ∧ m.read (p.length + 4) = stop := by
  rw [Memory.readRange_eq_wireBytes]
  constructor
  · intro h
    obtain ⟨hfront, htrailer⟩ := List.append_inj h (by simp)
    obtain ⟨hhead, hpayload⟩ := List.append_inj hfront rfl
    simp only [List.cons.injEq, and_true] at hhead htrailer
    obtain ⟨hstart, hlen⟩ := hhead
    exact ⟨hstart, hlen, hpayload, htrailer⟩
  · rintro ⟨rfl, rfl, hpayload, rfl, rfl, rfl⟩
    rw [hpayload]

/-! ## The length byte and the checksum of a frame -/

/-- R75: the LENGTH byte of a payload of at most 255 bytes is the payload's length. -/
theorem toNat_ofNat_length {p : List Byte} (hmax : p.length ≤ 255) : (BitVec.ofNat 8 p.length).toNat = p.length :=
  Nat.mod_eq_of_lt (by omega)

/-- A checksum is two bytes exactly when they are its high and its low byte. -/
theorem checksum_eq_append_iff {x : Word16} {high low : Byte} :
    x = high ++ low ↔ high = highByte x ∧ low = lowByte x := by
  constructor
  · rintro rfl
    exact ⟨(commandArg_commandWord low high).symm, (commandOp_commandWord low high).symm⟩
  · rintro ⟨rfl, rfl⟩
    exact (highByte_append_lowByte x).symm

/-- R52: two bytes as a checksum, in numbers. -/
theorem toNat_highLow (high low : Byte) : (high ++ low : Word16).toNat = high.toNat * 256 + low.toNat := by
  have hhigh := toNat_commandArg (commandWord low high)
  have hlow := toNat_commandOp (commandWord low high)
  rw [commandArg_commandWord] at hhigh
  rw [commandOp_commandWord] at hlow
  rw [← commandWord]
  omega

/-! ## What `FrameCheck` accepts -/

/-- Settles O27: the six checks read every byte of a frame. -/
theorem frameCheckAcceptsExactlyTheFrames : Obligations.FrameCheckAcceptsExactlyTheFrames := by
  intro c n m p
  rw [frameCheck_eq_good, checksum_eq_append_iff]
  constructor
  · rintro ⟨hmin, hstart, -, rfl, hstop, rfl, hhigh, hlow⟩
    rw [Memory.length_readRange]
    refine ⟨by omega, by omega, ?_⟩
    rw [frame_eq_wireBytes, Memory.readRange_eq_wireBytes, hstart, hstop, hhigh, hlow, Memory.length_readRange,
      BitVec.ofNat_toNat, BitVec.setWidth_eq]
  · rintro ⟨hmin, hmax, hbytes⟩
    obtain rfl : n = p.length + 5 := by simpa using congrArg List.length hbytes
    obtain ⟨hstart, hlen, hpayload, hhigh, hlow, hstop⟩ := Memory.readRange_eq_wireBytes_iff.mp hbytes
    rw [hlen, toNat_ofNat_length hmax]
    exact ⟨by omega, hstart, by omega, rfl, hstop, hpayload.symm, hhigh, hlow⟩

/-! ## One byte changed -/

section
variable {c : Cfg} {m : Memory} {start len high low stop : Byte} {p : List Byte}

/-- A buffer that begins with START and a payload's true length: what is left to `FrameCheck` are STOP and the
checksum. -/
theorem frameCheck_wireBytes (hmin : 1 ≤ p.length) (hmax : p.length ≤ 255)
    (h : m.readRange 0 (p.length + 5) = wireBytes start (BitVec.ofNat 8 p.length) p high low stop) :
    frameCheck c (p.length + 5) m =
      if start ≠ c.startByte then .bad .eStart
      else if stop ≠ c.stopByte then .bad .eStop
      else if crc16 c p ≠ high ++ low then .bad .eCrc
      else .good p := by
  obtain ⟨hstart, hlen, hpayload, hhigh, hlow, hstop⟩ := Memory.readRange_eq_wireBytes_iff.mp h
  rw [frameCheck, hlen, toNat_ofNat_length hmax, hstart, hpayload, hhigh, hlow, hstop, if_neg (by omega),
    if_neg (by omega : p.length ≠ 0), if_neg (not_not.mpr rfl)]

/-- A buffer that begins with START and another length than the payload's: E_LEN if it is 0, else E_SIZE. -/
theorem frameCheck_of_length_ne (hmin : 1 ≤ p.length) (hlen : len.toNat ≠ p.length)
    (h : m.readRange 0 (p.length + 5) = wireBytes c.startByte len p high low stop) :
    frameCheck c (p.length + 5) m = if len.toNat = 0 then .bad .eLen else .bad .eSize := by
  obtain ⟨hstart, hlength, -⟩ := Memory.readRange_eq_wireBytes_iff.mp h
  rw [frameCheck, hlength, hstart, if_neg (by omega), if_neg (not_not.mpr rfl), if_pos (by omega : p.length + 5 ≠ _)]

end

/-- Behind START and LENGTH, a change at offset i + 2 of bytes in the places of a frame is one at offset i of the
rest. -/
theorem set_wireBytes_add_two (start len high low stop y : Byte) (p : List Byte) (i : Nat) :
    (wireBytes start len p high low stop).set (i + 2) y = [start, len] ++ (p ++ [high, low, stop]).set i y := by
  simp [wireBytes]

theorem set_wireBytes_payload (start len high low stop y : Byte) {p : List Byte} {i : Nat} (hi : i < p.length) :
    (wireBytes start len p high low stop).set (i + 2) y = wireBytes start len (p.set i y) high low stop := by
  rw [set_wireBytes_add_two, List.set_append_left _ _ hi]
  rfl

/-- The three bytes behind the payload. -/
theorem set_wireBytes_trailer (start len high low stop y : Byte) (p : List Byte) (k : Nat) :
    (wireBytes start len p high low stop).set (p.length + k + 2) y =
      [start, len] ++ p ++ [high, low, stop].set k y := by
  rw [set_wireBytes_add_two, List.set_append_right _ _ (by omega), Nat.add_sub_cancel_left, List.append_assoc]

section
variable {c : Cfg} {p : List Byte} {m : Memory} {x y : Byte}

/-- R149: another byte in the payload, or in one of the two checksum bytes. -/
theorem frameCheck_eq_eCrc_of_set (hmin : 1 ≤ p.length) (hmax : p.length ≤ 255) {i : Nat} (hi : i < p.length + 2)
    (hne : y ≠ x) (hx : (frame c p)[i + 2]? = some x)
    (hbytes : m.readRange 0 (p.length + 5) = (frame c p).set (i + 2) y) :
    frameCheck c (p.length + 5) m = .bad .eCrc := by
  rw [frame_eq_wireBytes] at hbytes
  have hreject : ∀ q high low, q.length = p.length → ¬(high = highByte (crc16 c q) ∧ low = lowByte (crc16 c q)) →
      m.readRange 0 (p.length + 5) = wireBytes c.startByte (BitVec.ofNat 8 p.length) q high low c.stopByte →
      frameCheck c (p.length + 5) m = .bad .eCrc := by
    intro q high low hlen hcrc h
    rw [← hlen] at hmin hmax h ⊢
    rw [frameCheck_wireBytes hmin hmax h, if_neg (not_not.mpr rfl), if_neg (not_not.mpr rfl),
      if_pos (mt checksum_eq_append_iff.mp hcrc)]
  rcases Nat.lt_trichotomy i p.length with hi | rfl | hi
  · rw [set_wireBytes_payload _ _ _ _ _ _ hi] at hbytes
    rw [getElem?_frame_payload c p hi] at hx
    refine hreject _ _ _ (List.length_set ..) ?_ hbytes
    rw [← checksum_eq_append_iff, highByte_append_lowByte]
    exact crc16_set_ne c hne hx
  · cases (getElem?_frame_trailer c p 0).symm.trans hx
    exact hreject p y _ rfl (fun h => hne h.1) (hbytes.trans (set_wireBytes_trailer _ _ _ _ _ y p 0))
  · obtain rfl : i = p.length + 1 := by omega
    cases (getElem?_frame_trailer c p 1).symm.trans hx
    exact hreject p _ y rfl (fun h => hne h.2) (hbytes.trans (set_wireBytes_trailer _ _ _ _ _ y p 1))

end

/-- Settles O28: a flipped bit makes another byte of the byte it stands in. -/
theorem singleBitCorruptionIsRejected : Obligations.SingleBitCorruptionIsRejected := by
  intro c p m j b x hmin hmax hx hbytes
  have hne := xor_bit_ne x b
  refine ⟨?start, ?length, fun h2 hj => ?checksum, ?stop⟩
  case start =>
    rintro rfl
    cases hx
    rw [frameCheck_wireBytes hmin hmax hbytes, if_pos hne]
  case length =>
    rintro rfl
    cases hx
    have hlen : (BitVec.ofNat 8 p.length ^^^ ((1 : Byte) <<< b.val)).toNat ≠ p.length := fun h =>
      hne (BitVec.eq_of_toNat_eq (h.trans (toNat_ofNat_length hmax).symm))
    rw [frameCheck_of_length_ne hmin hlen hbytes]
    split_ifs
    · exact .inl rfl
    · exact .inr rfl
  case checksum =>
    obtain ⟨i, rfl⟩ := Nat.exists_eq_add_of_le' h2
    exact frameCheck_eq_eCrc_of_set hmin hmax (by omega) hne hx hbytes
  case stop =>
    rintro rfl
    cases (getElem?_frame_trailer c p 2).symm.trans hx
    rw [frameCheck_wireBytes hmin hmax (hbytes.trans (set_wireBytes_trailer _ _ _ _ _ _ p 2)),
      if_neg (not_not.mpr rfl), if_pos hne]

/-! ## What DEC leaves -/

/-- The code of R141 for what `FrameCheck` returns. -/
def FrameVerdict.code : FrameVerdict → Byte
  | .bad st => st.code
  | .good _ => FrameStatus.ok.code

@[simp] theorem FrameVerdict.code_bad (st : FrameStatus) : (FrameVerdict.bad st).code = st.code := rfl

@[simp] theorem FrameVerdict.code_good (p : List Byte) : (FrameVerdict.good p).code = FrameStatus.ok.code := rfl

theorem rxst_decOp (c : Cfg) (s : State) : (decOp c s).rxst = (frameCheck c s.rxlen.toNat s.rxbuf).code := by
  rcases decOp_cases c s with ⟨p, hcheck, hs⟩ | ⟨st, hcheck, hs⟩ <;> rw [hs, hcheck] <;> rfl

/-- R142 to R146 with the offsets counted from the end of the buffer, as they are once the length is right. -/
theorem code_frameCheck (c : Cfg) (n : Nat) (m : Memory) :
    (frameCheck c n m).code =
      if n < 6 then 2
      else if m.read 0 ≠ c.startByte then 3
      else if m.read 1 = 0 then 4
      else if n ≠ (m.read 1).toNat + 5 then 5
      else if m.read (n - 1) ≠ c.stopByte then 6
      else if (crc16 c (m.readRange 2 (n - 5))).toNat ≠ (m.read (n - 3)).toNat * 256 + (m.read (n - 2)).toNat then 7
      else 1 := by
  have hzero : (m.read 1).toNat = 0 ↔ m.read 1 = 0 := BitVec.toNat_inj (y := 0)
  simp only [frameCheck, apply_ite FrameVerdict.code, FrameVerdict.code_bad, FrameVerdict.code_good, FrameStatus.code,
    ← toNat_highLow, ne_eq, BitVec.toNat_inj, hzero]
  by_cases hsize : n = (m.read 1).toNat + 5
  · rw [show n - 1 = (m.read 1).toNat + 4 by omega, show n - 5 = (m.read 1).toNat by omega,
      show n - 3 = (m.read 1).toNat + 2 by omega, show n - 2 = (m.read 1).toNat + 3 by omega]
  · simp only [hsize, not_false_eq_true, if_true]

/-- Settles O29. -/
theorem decReportsTheFirstDefect : Obligations.DecReportsTheFirstDefect := by
  intro s he
  refine ⟨decOp Config.cfg s, exec_of_running .dec he, (rxst_decOp _ s).trans (code_frameCheck ..), fun hbad => ?_, ?_⟩
  · rcases decOp_cases Config.cfg s with ⟨p, -, hs⟩ | ⟨st, -, hs⟩
    · exact absurd (congrArg State.rxst hs) hbad
    · rw [hs]
      exact ⟨rfl, rfl, rfl, rfl, rfl⟩
  · obtain ⟨st, cmd, plen, kd, node, v, hs⟩ := decOp_eq_setDecoded Config.cfg s
    rw [hs]
    exact ⟨rfl, fun _ _ => rfl, fun _ => rfl⟩

/-- R148, R151: on a buffer that holds the frame of a payload, DEC accepts that payload. -/
theorem decOp_of_frame {c : Cfg} {s : State} {p : List Byte} (hmin : 1 ≤ p.length) (hmax : p.length ≤ 255)
    (hlen : s.rxlen.toNat = p.length + 5) (hbytes : s.rxbuf.readRange 0 (p.length + 5) = frame c p) :
    decOp c s = acceptPayload c p s := by
  rw [decOp, hlen, (frameCheckAcceptsExactlyTheFrames c _ _ p).mpr ⟨hmin, hmax, hbytes⟩]

/-! ## Payload instructions -/

section
variable {i : Instr} {p : List Byte}

/-- R76: a payload instruction has one, five or seven bytes. -/
theorem length_of_encode_payload {c : Cfg} (h : encode c i = .payload p) :
    p.length = 1 ∨ p.length = 5 ∨ p.length = 7 := by
  cases i with
  | setDuty _ | setDutyRouted _ _ | setCurrent _ | setCurrentBrake _ | getValues =>
    cases h
    simp
  | mix | disp | dth _ | esd | esdr _ | esc | escb | egv | crc | dec => cases h

/-- R150 on the payload of an instruction: the parse gives back its operands. -/
theorem parsePayload_of_encode_payload {c : Cfg} (hc : c.wf) (h : encode c i = .payload p) :
    parsePayload c p = parsedOf i := by
  have hd : decodePayload c p = .ok i := by
    have hd := encodedInstructionDecodesToItself c hc i
    rwa [h] at hd
  rw [parsePayload, hd]

/-- Row 6 of R150: a payload that is no instruction's is RAW. -/
theorem parsePayload_of_not_encoded {c : Cfg} (h : ∀ i, encode c i ≠ .payload p) :
    parsePayload c p = ⟨.raw, 0, 0⟩ := by
  rw [parsePayload]
  cases hd : decodePayload c p with
  | ok i => exact absurd (encode_of_decodePayload hd) (h i)
  | error _ => rfl

/-- R151 for the payload of an instruction: the decoder results are its command-id, its length and its operands. -/
theorem acceptPayload_of_encode_payload {c : Cfg} (hc : c.wf) (h : encode c i = .payload p) (s : State) :
    acceptPayload c p s = s.setDecoded .ok (p.headD 0) (BitVec.ofNat 8 p.length) (parsedOf i).kind (parsedOf i).node
      (parsedOf i).val := by
  rw [acceptPayload, parsePayload_of_encode_payload hc h]

/-- A payload instruction on a running block. -/
theorem exec_of_encode_payload (h : encode Config.cfg i = .payload p) {s : State} (he : s.err = 0) :
    exec i s = .next (s.setDecoded .ok (p.headD 0) (BitVec.ofNat 8 p.length) (parsedOf i).kind (parsedOf i).node
      (parsedOf i).val) := by
  rw [exec_of_running i he, operationOf_of_encode_payload h, acceptPayload_of_encode_payload Config.cfg_wf h]

end

/-- Settles O31. -/
theorem wirePayloadsSetTheDecoderResults : Obligations.WirePayloadsSetTheDecoderResults := fun _ v n he =>
  ⟨exec_of_encode_payload (i := .setDuty v) rfl he, exec_of_encode_payload (i := .setCurrent v) rfl he,
    exec_of_encode_payload (i := .setCurrentBrake v) rfl he, exec_of_encode_payload (i := .getValues) rfl he,
    exec_of_encode_payload (i := .setDutyRouted n v) rfl he⟩

/-- Settles O32: behind the same halt check, both accept the payload. -/
theorem decRunsTheReceivedPayload : Obligations.DecRunsTheReceivedPayload := by
  intro s i p h hlen hbytes
  have hsize := length_of_encode_payload h
  rw [exec_eq, exec_eq, whenRunning, whenRunning, operationOf_of_encode_payload h, operationOf,
    decOp_of_frame (by omega) (by omega) hlen hbytes]

/-! ## The rows of R150 -/

/-- Rows 1 to 3: five bytes are a command-id and a value. -/
theorem exists_eq_cons_be32 {p : List Byte} {d : Byte} (hlen : p.length = 5) (hd : p[0]? = some d) :
    ∃ v, p = d :: be32 v := by
  match p, hlen with
  | [_, b0, b1, b2, b3], _ =>
    cases hd
    exact ⟨unbe32 b0 b1 b2 b3, by rw [be32_unbe32]⟩

/-- Row 5: seven bytes are a command-id, a node and a five-byte payload. -/
theorem exists_eq_cons_cons_be32 {p : List Byte} {f d : Byte} (hlen : p.length = 7) (hf : p[0]? = some f)
    (hd : p[2]? = some d) : ∃ n v, p = f :: n :: d :: be32 v := by
  match p, hlen with
  | f' :: n :: q, hq =>
    obtain ⟨v, rfl⟩ := exists_eq_cons_be32 (Nat.add_right_cancel (m := 2) hq) hd
    cases hf
    exact ⟨n, v, rfl⟩

/-- Settles O30: a payload that meets one of the rows 1 to 5 is the encoding of that row's instruction, and one that
meets none is the encoding of none. -/
theorem decClassifiesThePayload : Obligations.DecClassifiesThePayload := by
  intro s p t he hmin hmax hlen hbytes ht
  rw [exec_of_running .dec he, operationOf, decOp_of_frame hmin hmax hlen hbytes] at ht
  obtain rfl := Host.Outcome.next.inj ht
  have hrow : ∀ i, encode Config.cfg i = .payload p →
      (acceptPayload Config.cfg p s).rxkind = (parsedOf i).kind.code ∧
        (acceptPayload Config.cfg p s).rxnode = (parsedOf i).node ∧
        (acceptPayload Config.cfg p s).rxval = (parsedOf i).val := by
    intro i hi
    rw [acceptPayload_of_encode_payload Config.cfg_wf hi]
    exact ⟨rfl, rfl, rfl⟩
  refine ⟨rfl, ?_, toNat_ofNat_length hmax, ?_⟩
  · cases p with
    | nil => cases hmin
    | cons b p => rfl
  split_ifs with hduty hcurrent hbrake hvalues hrouted
  · obtain ⟨v, rfl⟩ := exists_eq_cons_be32 hduty.1 hduty.2
    obtain ⟨hkind, hnode, hval⟩ := hrow (.setDuty v) rfl
    exact ⟨hkind, hnode, congrArg be32 hval⟩
  · obtain ⟨v, rfl⟩ := exists_eq_cons_be32 hcurrent.1 hcurrent.2
    obtain ⟨hkind, hnode, hval⟩ := hrow (.setCurrent v) rfl
    exact ⟨hkind, hnode, congrArg be32 hval⟩
  · obtain ⟨v, rfl⟩ := exists_eq_cons_be32 hbrake.1 hbrake.2
    obtain ⟨hkind, hnode, hval⟩ := hrow (.setCurrentBrake v) rfl
    exact ⟨hkind, hnode, congrArg be32 hval⟩
  · obtain ⟨hlength, hid⟩ := hvalues
    obtain ⟨g, rfl⟩ := List.length_eq_one_iff.mp hlength
    cases hid
    exact hrow .getValues rfl
  · obtain ⟨hlength, hforward, hid⟩ := hrouted
    obtain ⟨n, v, rfl⟩ := exists_eq_cons_cons_be32 hlength hforward hid
    obtain ⟨hkind, hnode, hval⟩ := hrow (.setDutyRouted n v) rfl
    exact ⟨hkind, congrArg some hnode, congrArg be32 hval⟩
  · have hnone : ∀ i, encode Config.cfg i ≠ .payload p := by
      intro i henc
      cases i with
      | setDuty v =>
        cases henc
        exact hduty ⟨rfl, rfl⟩
      | setCurrent v =>
        cases henc
        exact hcurrent ⟨rfl, rfl⟩
      | setCurrentBrake v =>
        cases henc
        exact hbrake ⟨rfl, rfl⟩
      | getValues =>
        cases henc
        exact hvalues ⟨rfl, rfl⟩
      | setDutyRouted n v =>
        cases henc
        exact hrouted ⟨rfl, rfl, rfl⟩
      | mix | disp | dth _ | esd | esdr _ | esc | escb | egv | crc | dec => cases henc
    rw [acceptPayload, parsePayload_of_not_encoded hnone]
    exact ⟨rfl, rfl, rfl⟩

/-! ## The round trip of R153 -/

/-- R153: the host has copied the built frame, `TXLEN` bytes of `TXBUF`, into the receive buffer rx. -/
def State.receive (s : State) (rx : Memory) : State := { s with rxbuf := rx, rxlen := s.txlen.setWidth 16 }

/-- R153: the frame of a payload instruction, built in `TXBUF` and copied to `RXBUF`, decodes to the instruction's kind
and operands. -/
theorem decoded_of_copied_frame {i : Instr} {p : List Byte} (h : encode Config.cfg i = .payload p) {s u : State}
    (he : s.err = 0) (hw : s.txbuf.wf) {rx : Memory}
    (hcopy : rx.readRange 0 (buildFrame Config.cfg p s).txlen.toNat =
      (buildFrame Config.cfg p s).txbuf.readRange 0 (buildFrame Config.cfg p s).txlen.toNat)
    (hu : exec .dec ((buildFrame Config.cfg p s).receive rx) = .next u) :
    u.rxst = 1 ∧ u.rxkind = (parsedOf i).kind.code ∧ u.rxnode = (parsedOf i).node ∧ u.rxval = (parsedOf i).val ∧
      u.rxcmd = p.headD 0 ∧ u.rxplen = BitVec.ofNat 8 p.length := by
  have hsize := length_of_encode_payload h
  obtain ⟨hlen, hstored, -⟩ := buildFrame_spec Config.cfg hw (p := p) rfl
  have htxlen : (buildFrame Config.cfg p s).txlen.toNat = p.length + 5 := by
    rw [hlen]
    exact Nat.mod_eq_of_lt (by omega)
  have hrxlen : ((buildFrame Config.cfg p s).receive rx).rxlen.toNat = p.length + 5 :=
    (BitVec.toNat_setWidth_of_le (by decide)).trans htxlen
  rw [htxlen, hstored] at hcopy
  have hrunning : ((buildFrame Config.cfg p s).receive rx).err = 0 := he
  rw [decRunsTheReceivedPayload _ i p h hrxlen hcopy, exec_of_encode_payload h hrunning] at hu
  obtain rfl := Host.Outcome.next.inj hu
  exact ⟨rfl, rfl, rfl, rfl, rfl, rfl⟩

/-- Settles O33: each encode operation frames the payload of the instruction that DEC then finds. -/
theorem encodedFrameRoundTrips : Obligations.EncodedFrameRoundTrips := by
  intro s t u n rx x hx he hw ht hcopy hu
  rw [exec_of_running x.1 he] at ht
  obtain rfl := Host.Outcome.next.inj ht
  simp only [List.mem_cons, List.not_mem_nil, or_false] at hx
  rcases hx with rfl | rfl | rfl | rfl | rfl
  · exact decoded_of_copied_frame (i := .setDuty s.val) rfl he hw hcopy hu
  · exact decoded_of_copied_frame (i := .setDutyRouted n s.val) rfl he hw hcopy hu
  · exact decoded_of_copied_frame (i := .setCurrent s.val) rfl he hw hcopy hu
  · exact decoded_of_copied_frame (i := .setCurrentBrake s.val) rfl he hw hcopy hu
  · exact decoded_of_copied_frame (i := .getValues) rfl he hw hcopy hu

end Sys2Proof.Machine
end

section
/-! PROOFS. The dispatch router (spec/43_dispatch.md): what one dispatch step sends and leaves unchanged (R160 to R163),
the operations DTH (R164) and DISP (R166) as dispatch steps, and the repeated heartbeat (R167). -/

namespace Sys2Proof.Machine

/-! ## Routes -/

/-- R161: the route of a bus thruster in terms of its entry in the configuration. -/
theorem route_succ_of_bus {c : Cfg} {k : Nat} {b : BusThruster} (h : c.bus[k]? = some b) (s : State) :
    route c s (k + 1) = ⟨.bus, b.node, frame c (payDutyRouted c b.node (s.thrust (k + 1)))⟩ := by
  have hnode : nodeOf c (k + 1) = b.node := by simp [nodeOf, h]
  rw [route, hnode]

/-- R160, R161: thruster 0 takes the plain frame of 10 bytes, every other thruster the routed one of 12. -/
theorem length_route_bytes (c : Cfg) (s : State) (i : Nat) :
    (route c s i).bytes.length = if i = 0 then 10 else 12 := by
  cases i <;> simp [route]

theorem length_route_bytes_le (c : Cfg) (s : State) (i : Nat) : (route c s i).bytes.length ≤ 12 := by
  rw [length_route_bytes]
  split_ifs <;> omega

/-- R166: the records of all thrusters in ascending order, thruster 0 first. -/
theorem map_route_range (c : Cfg) (s : State) :
    (List.range c.nThr).map (route c s) =
      ⟨.localLink, 0, frame c (payDuty c (s.thrust 0))⟩ ::
        (c.bus.zipIdx 1).map fun b => ⟨.bus, b.1.node, frame c (payDutyRouted c b.1.node (s.thrust b.2))⟩ := by
  rw [Cfg.nThr, List.range_succ_eq_map, List.map_cons, List.map_map]
  refine congrArg (route c s 0 :: ·) (List.ext_getElem (by simp) fun k hk _ => ?_)
  have hbus : c.bus[k]? = some (c.bus[k]'(by simpa using hk)) := List.getElem?_eq_getElem _
  simp [route_succ_of_bus hbus, Nat.add_comm]

/-! ## One dispatch step -/

/-- R163, R118: the frame of a dispatch step stands in `TXBUF`, its length in `TXLEN`; the bytes above it stay. -/
theorem sendThruster_spec (c : Cfg) {s : State} (hw : s.txbuf.wf) (i : Nat) {n : Nat}
    (hn : (route c s i).bytes.length = n) :
    (sendThruster c s i).txlen = BitVec.ofNat 8 n ∧
      (sendThruster c s i).txbuf.readRange 0 n = (route c s i).bytes ∧ txSameFrom n s (sendThruster c s i) := by
  subst hn
  obtain ⟨hstored, habove⟩ := storeFrame_spec hw (route c s i).bytes
  exact ⟨rfl, hstored, habove⟩

/-- R163: the record of a dispatch step is appended to `OUT`. -/
theorem sendThruster_out (c : Cfg) (s : State) (i : Nat) : (sendThruster c s i).out = s.out ++ [route c s i] := rfl

theorem sendThruster_txbuf_wf (c : Cfg) {s : State} (hw : s.txbuf.wf) (i : Nat) : (sendThruster c s i).txbuf.wf :=
  Memory.wf_writeRange hw 0 _

/-- Dispatch steps keep `TXBUF` in canonical form and its bytes above the longest frame as they are. -/
theorem foldl_sendThruster_txbuf (c : Cfg) (is : List Nat) {s : State} (hw : s.txbuf.wf) :
    (is.foldl (sendThruster c) s).txbuf.wf ∧ txSameFrom 12 s (is.foldl (sendThruster c) s) := by
  induction is generalizing s with
  | nil => exact ⟨hw, fun _ _ => rfl⟩
  | cons i is ih =>
    obtain ⟨-, -, hfirst⟩ := sendThruster_spec c hw i rfl
    obtain ⟨hwf, hrest⟩ := ih (sendThruster_txbuf_wf c hw i)
    exact ⟨hwf, fun o ho => (hrest o ho).trans (hfirst o ((length_route_bytes_le c s i).trans ho))⟩

/-! ## DTH -/

/-- R164: an index from N_THR on takes BADIDX. -/
theorem dthOp_of_le {c : Cfg} {i : Byte} (h : c.nThr ≤ i.toNat) (s : State) :
    dthOp c i s = s.takeFault .badidx (commandWord 0x03 i) := by
  rw [dthOp, if_pos h]

/-- R164: an index below N_THR is one dispatch step. -/
theorem dthOp_of_lt {c : Cfg} {i : Byte} (h : i.toNat < c.nThr) (s : State) :
    dthOp c i s = sendThruster c s i.toNat := by
  rw [dthOp, if_neg (by omega)]

/-- Settles O41. -/
theorem badIndexTakesTheFault : Obligations.BadIndexTakesTheFault := by
  intro c s i _
  refine ⟨fun h => dthOp_of_le h s, fun h => ?_⟩
  rw [dthOp_of_lt h, sendThruster_out]
  exact ⟨rfl, rfl, by simp⟩

/-- Settles O34: BADIDX, or the dispatch step of thruster 0 or of a bus thruster. -/
theorem dthSendsOneThruster : Obligations.DthSendsOneThruster := by
  intro s i he hw
  refine ⟨dthOp Config.cfg i s, exec_of_running (.dth i) he, ?_⟩
  split_ifs with hi
  · rw [dthOp_of_le hi]
    exact ⟨fun _ => rfl, rfl⟩
  · have hlt : i.toNat < Config.cfg.nThr := by omega
    rw [dthOp_of_lt hlt]
    refine ⟨fun _ => rfl, route Config.cfg s i.toNat, ?_⟩
    generalize i.toNat = n at hlt
    cases n with
    | zero =>
      obtain ⟨hlen, hstored, habove⟩ := sendThruster_spec Config.cfg hw 0 (length_route_bytes Config.cfg s 0)
      rw [if_pos rfl] at hlen hstored habove
      rw [hlen]
      exact ⟨_, ⟨rfl, rfl, rfl, rfl⟩, rfl, rfl, hstored, habove, rfl⟩
    | succ k =>
      have hbus : Config.cfg.bus[k]? = some (Config.cfg.bus[k]'(Nat.lt_of_succ_lt_succ hlt)) :=
        List.getElem?_eq_getElem _
      obtain ⟨hlen, hstored, habove⟩ :=
        sendThruster_spec Config.cfg hw (k + 1) (length_route_bytes Config.cfg s (k + 1))
      rw [if_neg k.succ_ne_zero] at hlen hstored habove
      rw [hlen]
      refine ⟨_, ⟨rfl, ?_, rfl, rfl⟩, rfl, rfl, hstored, habove, rfl⟩
      rw [route_succ_of_bus hbus, hbus]
      rfl

/-! ## DISP -/

theorem dispOp_out (c : Cfg) (s : State) : (dispOp c s).out = s.out ++ (List.range c.nThr).map (route c s) :=
  congrArg State.out (dispOp_eq c s)

theorem dispOp_rxSame (c : Cfg) (s : State) : rxSame s (dispOp c s) := fun o => by rw [dispOp_eq]

/-- R166: DISP is the dispatch steps of all thrusters but the last, and then the last one's. -/
theorem dispOp_eq_sendThruster_last (c : Cfg) (s : State) :
    dispOp c s = sendThruster c ((List.range c.bus.length).foldl (sendThruster c) s) c.bus.length := by
  rw [dispOp, Cfg.nThr, List.range_succ, List.foldl_append]
  rfl

/-- R166: DISP leaves the last thruster's frame in `TXBUF`; no earlier frame is longer, so the bytes above it stay. -/
theorem dispOp_spec (c : Cfg) {s : State} (hw : s.txbuf.wf) {n : Nat}
    (hn : (route c s c.bus.length).bytes.length = n) :
    (dispOp c s).txlen = BitVec.ofNat 8 n ∧
      (dispOp c s).txbuf.readRange 0 n = (route c s c.bus.length).bytes ∧ txSameFrom n s (dispOp c s) := by
  have hframe := foldl_sendThruster c (List.range c.bus.length) s
  obtain ⟨hwf, hearlier⟩ := foldl_sendThruster_txbuf c (List.range c.bus.length) hw
  rw [dispOp_eq_sendThruster_last]
  by_cases hbus : c.bus.length = 0
  · rw [hbus] at hn ⊢
    exact sendThruster_spec c hw 0 hn
  · set u := (List.range c.bus.length).foldl (sendThruster c) s
    have hth : u.th = s.th := by rw [hframe]
    have hroute := route_congr c hth c.bus.length
    obtain ⟨hlen, hstored, habove⟩ := sendThruster_spec c hwf c.bus.length (hroute ▸ hn)
    have hlong : 12 ≤ n := by rw [← hn, length_route_bytes, if_neg hbus]
    exact ⟨hlen, hroute ▸ hstored, fun o ho => (habove o ho).trans (hearlier o (hlong.trans ho))⟩

/-- Settles O35. -/
theorem dispSendsEveryThruster : Obligations.DispSendsEveryThruster := by
  intro s he hw
  have hlast := dispOp_spec Config.cfg hw (length_route_bytes Config.cfg s Config.cfg.bus.length)
  refine ⟨dispOp Config.cfg s, exec_of_running .disp he, by rw [dispOp_out, map_route_range], ?_,
    dispOp_rxSame Config.cfg s, dispOp_out Config.cfg s ▸ dispOp_eq Config.cfg s⟩
  cases hb : Config.cfg.bus.getLast? with
  | none =>
    have hlen : Config.cfg.bus.length = 0 := by simpa using hb
    rw [hlen] at hlast
    exact hlast
  | some b =>
    rw [List.getLast?_eq_getElem?] at hb
    obtain ⟨k, hk⟩ : ∃ k, Config.cfg.bus.length = k + 1 :=
      Nat.exists_eq_succ_of_ne_zero fun h0 => by simp [List.length_eq_zero_iff.mp h0] at hb
    rw [hk, Nat.add_sub_cancel] at hb
    rw [hk, route_succ_of_bus hb, if_neg k.succ_ne_zero] at hlast
    rw [Cfg.nThr, Nat.add_sub_cancel, hk]
    exact hlast

/-- R164: DTH of existing thrusters, one after another, are their dispatch steps. -/
theorem runInstrs_map_dth {is : List Nat} (his : ∀ i ∈ is, i < Config.cfg.nThr) {s : State} (he : s.err = 0) :
    runInstrs (is.map fun i => .dth (BitVec.ofNat 8 i)) s = .next (is.foldl (sendThruster Config.cfg) s) := by
  induction is generalizing s with
  | nil => rfl
  | cons i is ih =>
    obtain ⟨hi, hrest⟩ := List.forall_mem_cons.mp his
    have hindex : (BitVec.ofNat 8 i).toNat = i := Nat.mod_eq_of_lt (hi.trans_le Config.cfg_wf.1)
    rw [List.map_cons, runInstrs_cons_of_running _ _ he, operationOf, dthOp_of_lt (hindex.symm ▸ hi), hindex,
      List.foldl_cons]
    exact ih hrest he

/-- Settles O36. -/
theorem dispIsTheSequenceOfDth : Obligations.DispIsTheSequenceOfDth := fun _ he =>
  (exec_of_running .disp he).trans (runInstrs_map_dth (fun _ => List.mem_range.mp) he).symm

/-! ## What the router sends -/

/-- R162: what DISP sends depends on `TH`. -/
theorem dispOp_out_congr (c : Cfg) {s s' : State} (hth : s.th = s'.th) (hout : s.out = s'.out) :
    (dispOp c s).out = (dispOp c s').out := by
  rw [dispOp_out, dispOp_out, hout, funext (route_congr c hth)]

/-- R162: what DTH sends depends on `TH`. -/
theorem dthOp_out_congr (c : Cfg) (i : Byte) {s s' : State} (hth : s.th = s'.th) (hout : s.out = s'.out) :
    (dthOp c i s).out = (dthOp c i s').out := by
  rcases Nat.lt_or_ge i.toNat c.nThr with h | h
  · rw [dthOp_of_lt h, dthOp_of_lt h, sendThruster_out, sendThruster_out, hout, route_congr c hth]
  · rw [dthOp_of_le h, dthOp_of_le h]
    exact hout

/-- Settles O37. -/
theorem routerSendsThrusterRegistersOnly : Obligations.RouterSendsThrusterRegistersOnly := by
  intro s s' t t' he he' hth hout i hi ht ht'
  rw [exec_of_running i he] at ht
  rw [exec_of_running i he'] at ht'
  obtain rfl := Host.Outcome.next.inj ht
  obtain rfl := Host.Outcome.next.inj ht'
  rcases hi with rfl | ⟨k, rfl⟩
  · exact dispOp_out_congr Config.cfg hth hout
  · exact dthOp_out_congr Config.cfg k hth hout

/-! ## What keeps `SP` -/

/-- R36: no instruction writes `SP` or takes a host action. -/
theorem exec_keeps_sp {i : Instr} {s t : State} (h : exec i s = .next t) :
    t.sp = s.sp ∧ t.hostStream = s.hostStream := by
  obtain ⟨⟨hsp, -, -, -, hstream⟩, -⟩ := eachRegisterHasItsWriters i s t h
  exact ⟨hsp, hstream⟩

/-- No command word writes `SP`, be it discarded, run or illegal. -/
theorem issueCommand_keeps_sp {w : Word16} {s t : State} (h : issueCommand w s = .next t) :
    t.sp = s.sp ∧ t.hostStream = s.hostStream := by
  by_cases he : s.err = 0
  · rw [issueCommand_of_running w he] at h
    split at h
    · exact exec_keeps_sp h
    · obtain rfl := Host.Outcome.next.inj h
      exact ⟨rfl, rfl⟩
  · rw [issueCommand_of_halted w he] at h
    obtain rfl := Host.Outcome.next.inj h
    exact ⟨rfl, rfl⟩

/-- R22, R55, R200: the host actions that write `SP`: reset, and a write of `SP` or of one of its views. -/
def overwritesSp : HostAction → Bool
  | .reset | .write .sp _ | .write (.spField _) _ | .write (.ax _) _ => true
  | _ => false

theorem hostWrite_keeps_sp {r : HostReg} {v : Word64} (h : overwritesSp (.write r v) = false) (s : State) :
    (s.hostWrite r v).sp = s.sp := by
  cases r with
  | sp | spField _ | ax _ => cases h
  | _ => rfl

@[simp] theorem State.hostWrite_hostStream (s : State) (r : HostReg) (v : Word64) :
    (s.hostWrite r v).hostStream = s.hostStream := by
  rcases hostWrite_cases s r v with ⟨x, h⟩ | ⟨x, h⟩ | ⟨o, x, -, h⟩ | ⟨x, h⟩ | h <;> simp [h]

/-- Any other host action leaves `SP` as it is, and takes no further action. -/
theorem performAction_keeps_sp {a : HostAction} (ha : overwritesSp a = false) {s t : State}
    (h : performAction a s = .next t) : t.sp = s.sp ∧ t.hostStream = s.hostStream := by
  rcases performAction_cases h with ⟨w, -, hw⟩ | ⟨r, v, rfl, -, rfl⟩ | ⟨r, -, -, rfl⟩ | ⟨rfl, -⟩
  · exact issueCommand_keeps_sp hw
  · exact ⟨hostWrite_keeps_sp ha s, by simp⟩
  · exact ⟨rfl, rfl⟩
  · cases ha

/-- A step of a block with no write of `SP` pending keeps `SP`, and leaves no such write pending. -/
theorem step_keeps_sp {s t : State} (hs : ∀ a ∈ s.hostStream, overwritesSp a = false) (h : step s = .next t) :
    t.sp = s.sp ∧ ∀ a ∈ t.hostStream, overwritesSp a = false := by
  cases hstream : s.hostStream with
  | nil =>
    rw [step_of_idle hstream] at h
    obtain rfl := Host.Outcome.next.inj h
    exact ⟨rfl, hs⟩
  | cons a rest =>
    rw [hstream] at hs
    obtain ⟨ha, hrest⟩ := List.forall_mem_cons.mp hs
    rw [step_of_stream hstream] at h
    obtain ⟨hsp, hleft⟩ := performAction_keeps_sp ha h
    exact ⟨hsp, hleft ▸ hrest⟩

theorem run_keeps_sp {k : Nat} {s u : State} (hs : ∀ a ∈ s.hostStream, overwritesSp a = false)
    (h : Host.Core.run Sys2Proof.core k s = .next u) : u.sp = s.sp := by
  induction k generalizing s with
  | zero => rw [run_zero.mp h]
  | succ k ih =>
    obtain ⟨t, hstep, hrun⟩ := run_succ.mp h
    obtain ⟨hsp, ht⟩ := step_keeps_sp hs hstep
    exact (ih ht hrun).trans hsp

theorem runInstrs_keeps_sp {is : List Instr} {s u : State} (h : runInstrs is s = .next u) : u.sp = s.sp := by
  induction is generalizing s with
  | nil => rw [Host.Outcome.next.inj h]
  | cons i is ih =>
    rw [runInstrs_cons] at h
    exact (ih h).trans (exec_keeps_sp (exec_eq i s)).1

/-! ## The repeated heartbeat -/

/-- R162, R166: MIX ; DISP on a running block sends the records of the thruster registers that MIX wrote. -/
theorem runInstrs_mix_disp {s : State} (he : s.err = 0) :
    runInstrs [.mix, .disp] s = .next (dispOp Config.cfg (mixOp Config.cfg s)) :=
  (runInstrs_cons_of_running .mix [.disp] he).trans (runInstrs_cons_of_running (s := mixOp Config.cfg s) .disp [] he)

/-- R98: the thruster registers that MIX writes depend on `SP` alone. -/
theorem mixOp_th_congr (c : Cfg) {s u : State} (h : u.sp = s.sp) : (mixOp c u).th = (mixOp c s).th := by
  rw [mixOp_th, mixOp_th, h]

/-- Settles O38: MIX gives the same `TH` from the same `SP`, and DISP sends `TH` alone. -/
theorem heartbeatRepeatsTheRecords : Obligations.HeartbeatRepeatsTheRecords := by
  refine ⟨fun s u hes heu hsp => ?_, fun _ _ _ => runInstrs_keeps_sp, fun k s u hrun hreset hsp hfield hax => ?_⟩
  · have hroute := funext (route_congr Config.cfg (mixOp_th_congr Config.cfg hsp))
    refine ⟨_, _, (List.range Config.cfg.nThr).map (route Config.cfg (mixOp Config.cfg s)), runInstrs_mix_disp hes,
      dispOp_out _ _, runInstrs_mix_disp heu, ?_, by simp⟩
    rw [← hroute]
    exact dispOp_out _ _
  · refine run_keeps_sp (fun a ha => ?_) hrun
    unfold overwritesSp
    split
    · exact absurd ha hreset
    · exact absurd ha (hsp _)
    · exact absurd ha (hfield _ _)
    · exact absurd ha (hax _ _)
    · rfl

end Sys2Proof.Machine
end

section
/-! PROOFS. Faults and the halt (spec/60_exceptions.md): which operations fault (R176, R178), what a faulted block
discards and what it still stores (R179), and that a fault stays until reset (R181). -/

namespace Sys2Proof.Machine

/-! ## Which operations fault -/

/-- R176, R178: DTH leaves `ERR` set only by BADIDX. -/
theorem fault_of_exec_dth {k : Byte} {s t : State} (he : s.err = 0) (h : exec (.dth k) s = .next t) (ht : t.err ≠ 0) :
    Config.cfg.nThr ≤ k.toNat ∧ t = s.takeFault .badidx (commandWord 0x03 k) := by
  rw [exec_of_running _ he] at h
  obtain rfl := Host.Outcome.next.inj h
  rcases dthOp_cases Config.cfg k s with hbad | ⟨-, hsent⟩
  · exact hbad
  · exact absurd ((congrArg State.err hsent).trans he) ht

/-- R176, R178: CRC leaves `ERR` set only by BADLEN. -/
theorem fault_of_exec_crc {s t : State} (he : s.err = 0) (h : exec .crc s = .next t) (ht : t.err ≠ 0) :
    rxFrameMax < s.rxlen.toNat ∧ t = s.takeFault .badlen (commandWord 0x20 0) := by
  rw [exec_of_running _ he] at h
  obtain rfl := Host.Outcome.next.inj h
  rcases crcOp_cases Config.cfg s with hbad | ⟨-, hsummed⟩
  · exact hbad
  · exact absurd ((congrArg State.err hsummed).trans he) ht

/-- Settles O40: the other instructions do not write `ERR` (R36). -/
theorem onlyDthAndCrcFault : Obligations.OnlyDthAndCrcFault := by
  intro i s t he h ht
  by_cases hdth : ∃ k, i = .dth k
  · obtain ⟨k, rfl⟩ := hdth
    obtain ⟨hk, hfault⟩ := fault_of_exec_dth he h ht
    exact .inl ⟨k, rfl, hk, hfault⟩
  · by_cases hcrc : i = .crc
    · subst hcrc
      exact .inr ⟨rfl, fault_of_exec_crc he h ht⟩
    · obtain ⟨-, -, -, -, -, -, hkeeps⟩ := eachRegisterHasItsWriters i s t h
      obtain ⟨herr, -⟩ := hkeeps hcrc (not_exists.mp hdth)
      exact absurd (herr.trans he) ht

/-! ## What a faulted block does -/

/-- R179: a faulted block discards every instruction. -/
theorem exec_of_halted (i : Instr) {s : State} (he : s.err ≠ 0) : exec i s = .next s := by
  rw [exec_eq, whenRunning_of_halted he]

/-- R179: a pending command word on a faulted block is used up and does nothing, be it legal or not. -/
theorem step_of_command_halted {s : State} {w : Word16} {rest : List HostAction} (he : s.err ≠ 0)
    (hs : s.hostStream = .command w :: rest) : step s = .next (s.setStream rest) :=
  (step_of_stream hs).trans (issueCommand_of_halted w he)

/-- Settles O6: the halt check discards commands; host accesses do not look at `ERR`. -/
theorem faultedBlockDiscardsCommands : Obligations.FaultedBlockDiscardsCommands := by
  intro s he
  refine ⟨fun i => exec_of_halted i he, fun _ _ => step_of_command_halted he, fun _ _ => step_of_read,
    fun v rest => (setpointWritesReachTheirFields s v rest).2, fun k v rest hs => ?_,
    fun _ _ hs => step_of_write hs rfl, fun _ _ _ => step_of_write_rxbuf, fun _ _ hs => step_of_write hs rfl⟩
  obtain ⟨t, hstep, haxis, hothers, ht⟩ := (setpointWritesReachTheirFields s v rest).1 k hs
  exact ⟨t, hstep, BitVec.eq_of_toInt_eq haxis, hothers, ht⟩

/-! ## What stays until reset -/

/-- t is s but for the registers that the host writes (R36) and the pending actions. -/
def HostSideOnly (s t : State) : Prop :=
  t = { s with sp := t.sp, val := t.val, rxbuf := t.rxbuf, rxlen := t.rxlen, hostStream := t.hostStream }

theorem HostSideOnly.trans {s t u : State} (hst : HostSideOnly s t) (htu : HostSideOnly t u) : HostSideOnly s u := by
  rw [HostSideOnly] at hst htu ⊢
  rw [htu, hst]

theorem HostSideOnly.err_eq {s t : State} (h : HostSideOnly s t) : t.err = s.err := by
  rw [HostSideOnly] at h
  rw [h]

theorem hostSideOnly_setStream (s : State) (l : List HostAction) : HostSideOnly s (s.setStream l) := rfl

theorem hostSideOnly_hostWrite (s : State) (r : HostReg) (v : Word64) : HostSideOnly s (s.hostWrite r v) := by
  rcases hostWrite_cases s r v with ⟨x, h⟩ | ⟨x, h⟩ | ⟨o, x, -, h⟩ | ⟨x, h⟩ | h <;> rw [h] <;> rfl

/-- R179, R181: a host action other than reset, on a faulted block, changes at most a register that the host writes. -/
theorem performAction_of_halted {a : HostAction} (ha : a ≠ .reset) {s t : State} (he : s.err ≠ 0)
    (h : performAction a s = .next t) : HostSideOnly s t ∧ t.hostStream = s.hostStream := by
  rcases performAction_cases h with ⟨w, -, hw⟩ | ⟨r, v, -, -, rfl⟩ | ⟨r, -, -, rfl⟩ | ⟨hreset, -⟩
  · rw [issueCommand_of_halted w he] at hw
    obtain rfl := Host.Outcome.next.inj hw
    exact ⟨rfl, rfl⟩
  · exact ⟨hostSideOnly_hostWrite s r v, s.hostWrite_hostStream r v⟩
  · exact ⟨rfl, rfl⟩
  · exact absurd hreset ha

/-- A step of a faulted block with no reset pending changes at most the host's side, and leaves no reset pending. -/
theorem step_of_halted {s t : State} (he : s.err ≠ 0) (hs : HostAction.reset ∉ s.hostStream)
    (h : step s = .next t) : HostSideOnly s t ∧ HostAction.reset ∉ t.hostStream := by
  cases hstream : s.hostStream with
  | nil =>
    rw [step_of_idle hstream] at h
    obtain rfl := Host.Outcome.next.inj h
    exact ⟨rfl, hs⟩
  | cons a rest =>
    rw [hstream, List.mem_cons, not_or] at hs
    obtain ⟨ha, hrest⟩ := hs
    rw [step_of_stream hstream] at h
    obtain ⟨hside, hleft⟩ := performAction_of_halted (Ne.symm ha) (s := s.setStream rest) he h
    exact ⟨(hostSideOnly_setStream s rest).trans hside, hleft ▸ hrest⟩

/-- Any number of steps of a faulted block with no reset pending changes at most the host's side: `ERR` is not on it, so
the block stays faulted from step to step. -/
theorem run_of_halted {k : Nat} {s u : State} (he : s.err ≠ 0) (hs : HostAction.reset ∉ s.hostStream)
    (h : Host.Core.run Sys2Proof.core k s = .next u) : HostSideOnly s u := by
  induction k generalizing s with
  | zero =>
    obtain rfl := run_zero.mp h
    rfl
  | succ k ih =>
    obtain ⟨t, hstep, hrun⟩ := run_succ.mp h
    obtain ⟨hside, ht⟩ := step_of_halted he hs hstep
    exact hside.trans (ih (hside.err_eq ▸ he) ht hrun)

/-- Settles O7: neither the fault nor a result is on the host's side. -/
theorem faultStaysUntilReset : Obligations.FaultStaysUntilReset := by
  intro k s t he hs h
  have hside := run_of_halted he hs h
  rw [HostSideOnly] at hside
  rw [hside]
  exact ⟨rfl, rfl, rfl, rfl, rfl, rfl, rfl, rfl, rfl, rfl, rfl, rfl, rfl⟩

end Sys2Proof.Machine
end

section
/-! PROOFS. Reset and the first TICK after it (spec/70_reset_and_hazards.md): the values that reset leaves (R200), and
that a neutral setpoint is mixed to zero duty (R103) and sent as such to every thruster (R201). -/

namespace Sys2Proof.Machine

/-! ## Reset -/

/-- R200, R181: the step of a pending reset. It looks at nothing but the pending actions, so any state of the block has
it, a faulted one too. -/
theorem step_of_reset {s : State} {rest : List HostAction} (h : s.hostStream = .reset :: rest) :
    step s = .next (State.reset.setStream rest) :=
  step_of_stream h

/-- Settles O12. -/
theorem resetClearsEverything : Obligations.ResetClearsEverything := by
  intro s rest hs
  exact ⟨State.reset.setStream rest, step_of_reset hs, rfl, rfl, rfl, Memory.read_nil, rfl, Memory.read_nil, rfl, rfl,
    rfl, rfl, rfl, rfl, rfl, rfl, rfl, rfl, rfl, rfl⟩

/-! ## TICK -/

/-- R70: the step of a running block with a pending legal command word, with the operation it runs. -/
theorem step_of_command_eq_operationOf {s : State} {w : Word16} {rest : List HostAction} {i : Instr}
    (hs : s.hostStream = .command w :: rest) (he : s.err = 0) (hd : decodeCommand w = .ok i) :
    step s = .next (operationOf Config.cfg i (s.setStream rest)) :=
  (step_of_command hs he hd).trans (exec_of_running i he)

/-- R81: the two steps of a pending TICK on a running block are MIX and DISP. -/
theorem run_tick {s : State} {rest : List HostAction} (hs : s.hostStream = tick ++ rest) (he : s.err = 0) :
    Host.Core.run Sys2Proof.core 2 s = .next (dispOp Config.cfg (mixOp Config.cfg (s.setStream rest))) := by
  have hmix := step_of_command_eq_operationOf (i := .mix) hs he rfl
  have hdisp := step_of_command_eq_operationOf (i := .disp) (rest := rest)
    (s := mixOp Config.cfg (s.setStream (.command 0x0002 :: rest))) rfl he rfl
  exact run_succ.mpr ⟨_, hmix, run_succ.mpr ⟨_, hdisp, run_zero.mpr rfl⟩⟩

/-! ## The neutral setpoint -/

theorem axes_zero (k : Fin 6) : axes 0 k = 0 := by
  simp [axes, axisByte, spField]

/-- R103: the neutral setpoint is mixed to 0 on every lane, whatever the matrix. -/
theorem mix_axes_zero (c : Cfg) : mix c (axes 0) = List.replicate c.nThr 0 := by
  have hlane : ∀ lane ∈ c.lanes, mixLane c (axes 0) lane = 0 :=
    fun _ _ => mixLane_eq_zero c fun k => .inr (axes_zero k)
  rw [mix, List.map_congr_left hlane, List.map_const', length_lanes]

/-- R103: MIX of the neutral setpoint leaves every thruster register at 0. -/
theorem thrust_mixOp_of_neutral (c : Cfg) {s : State} (h : s.sp = 0) (i : Nat) : (mixOp c s).thrust i = 0 := by
  have hth : (mixOp c s).th = List.replicate c.nThr 0 := by
    rw [mixOp_th, h, mix_axes_zero, List.map_replicate]
    rfl
  rw [State.thrust, hth, List.getD_eq_getElem?_getD, List.getElem?_replicate]
  split_ifs <;> rfl

/-! ## The value bytes of a record -/

/-- R75, R116: the value of a plain duty frame stands at offsets 3 to 6, most significant byte first. -/
theorem valueBytes_frame_payDuty (c : Cfg) (v : Word32) : ((frame c (payDuty c v)).drop 3).take 4 = be32 v := rfl

/-- R75, R116: the value of a routed duty frame stands behind the routing command-id and the node id too. -/
theorem valueBytes_frame_payDutyRouted (c : Cfg) (n : Byte) (v : Word32) :
    ((frame c (payDutyRouted c n v)).drop 5).take 4 = be32 v := rfl

/-- R160, R161: the link of a route, the length of its frame, and where the pattern of `TH[i]` stands in it. -/
theorem route_valueBytes (c : Cfg) (s : State) (i : Nat) :
    ((route c s i).transport = .localLink ∧ (route c s i).bytes.length = 10 ∧
        ((route c s i).bytes.drop 3).take 4 = be32 (s.thrust i)) ∨
      ((route c s i).transport = .bus ∧ (route c s i).bytes.length = 12 ∧
        ((route c s i).bytes.drop 5).take 4 = be32 (s.thrust i)) := by
  have hlen := length_route_bytes c s i
  cases i with
  | zero => exact .inl ⟨rfl, hlen, valueBytes_frame_payDuty c _⟩
  | succ i => exact .inr ⟨rfl, hlen, valueBytes_frame_payDutyRouted c _ _⟩

/-- Settles O39: reset leaves `SP` neutral, so MIX leaves `TH` at 0, and DISP sends `TH`. -/
theorem tickAfterResetSendsZeroDuty : Obligations.TickAfterResetSendsZeroDuty := by
  set u := mixOp Config.cfg State.reset
  have hout : (dispOp Config.cfg u).out = (List.range Config.cfg.nThr).map (route Config.cfg u) :=
    dispOp_out Config.cfg u
  have hstream : (dispOp Config.cfg u).hostStream = [] := by rw [dispOp_eq]; rfl
  refine ⟨dispOp Config.cfg u, run_tick (rest := []) rfl rfl, by simp [hout], hstream, fun r hr => ?_⟩
  rw [hout] at hr
  obtain ⟨i, -, rfl⟩ := List.mem_map.mp hr
  have hzero : be32 (u.thrust i) = [0, 0, 0, 0] := by
    rw [thrust_mixOp_of_neutral Config.cfg rfl]
    rfl
  simpa only [hzero] using route_valueBytes Config.cfg u i

end Sys2Proof.Machine
end

section
/-! PROOFS. Sample bits (spec/95_test_vectors.md V81 to V88): words of both formats of R70 and a payload of R76, read
as the instructions they stand for. -/

namespace Sys2Proof.Machine

/-- R150: a routed duty payload decodes in every configuration, legal or not: no other row has its length. -/
theorem decodePayload_payDutyRouted (c : Cfg) (n : Byte) (v : Word32) :
    decodePayload c (payDutyRouted c n v) = .ok (.setDutyRouted n v) := by
  simp [payDutyRouted, payDuty, be32, decodePayload, unbe32_be32]

/-- Settles O3: each word selects its row of R73, which a word of format A gives its argument, and the payload is
`payDutyRouted`. -/
theorem sampleBitsDecode : Obligations.SampleBitsDecode := by
  have hdth : decodeCommand 0xFF03 = .ok (.dth 255) :=
    decodeCommand_of_selects (r := commandTable[2]) (List.getElem_mem _) rfl
  have hesdr : decodeCommand 0x0B11 = .ok (.esdr 11) :=
    decodeCommand_of_selects (r := commandTable[4]) (List.getElem_mem _) rfl
  refine ⟨⟨rfl, rfl, hdth, hesdr, rfl, rfl⟩, fun c => ?_⟩
  have hbytes : be32 (BitVec.ofInt 32 (-30000)) = [0xFF, 0xFF, 0x8A, 0xD0] := by decide
  have hpay := decodePayload_payDutyRouted c 0x0B (BitVec.ofInt 32 (-30000))
  rwa [payDutyRouted, payDuty, hbytes] at hpay

end Sys2Proof.Machine
end
